-- ==== Sys2Proof/Word.lean ====
section
/-!
DEFINITION. Word.lean: the bit vectors of the spec's formats (30_encoding.md R70) and the byte of the serial sink.
-/

namespace Sys2Proof

/-- One byte accepted by the serial sink (R32, R51). -/
abbrev Byte := BitVec 8

/-- Format EVT: the 16-bit event word, op in bits 15:12, arg in bits 11:0 (R71, R84). -/
abbrev EventWord := BitVec 16

/-- The operand part of an event word (R71). -/
abbrev EventArg := BitVec 12

/-- Format Q: the 6-bit decoder vector (R75). -/
abbrev QVec := BitVec 6

end Sys2Proof
end

