-- ==== Sys2Proof/Config.lean ====
section
/-!
DEFINITION. Config.lean: the implementation parameters of 00_scope.md R6 and the free values of the model.
-/

namespace Sys2Proof

/-- The three input lines of R26: BTN is pulled up and active low, PH_A and PH_B float. -/
inductive Line where
  | btn
  | phA
  | phB
  deriving DecidableEq, Repr

/-- What a step of POS past the end of its range does: the parameter POS_OVERFLOW of 93_implementation_defined.md U6,
with default `wrap` (decision D6) and the spec's alternative `fault`. -/
inductive PosOverflow where
  | wrap
  | fault
  deriving DecidableEq, Repr

/-- The parameters of R6 (and POS_OVERFLOW of U6): configuration, fixed for an instance of the hardware (R36). -/
structure Config where
  /-- W_MS, the width of MILLIS. -/
  wMs : Nat
  /-- INC, what a TICK adds to MILLIS. -/
  inc : Nat
  /-- PRESCALER, the divisor of the timer's clock. -/
  prescaler : Nat
  /-- COMPARE_VALUE, the timer's compare threshold. -/
  compareValue : Nat
  /-- CLOCK_KHZ, the timer's input clock in kHz. -/
  clockKhz : Nat
  /-- SUPPORTED_PRESCALERS, a finite set written as a list. -/
  supportedPrescalers : List Nat
  /-- W_POS, the width of POS. -/
  wPos : Nat
  /-- POS_OVERFLOW (U6). -/
  posOverflow : PosOverflow
  /-- REPORT_INTERVAL, the interval of the report gate. -/
  reportInterval : Nat
  /-- BLANK_LEN, how many spaces begin the status line. -/
  blankLen : Nat
  /-- BAUD, the serial bit rate; no rule depends on it. -/
  baud : Nat
  /-- GREETING, the bytes of the startup greeting. -/
  greeting : List Byte
  deriving DecidableEq, Repr

/-- FREE VALUE (log entry 5). The greeting's bytes: OPEN in R6, "text not in source" (R82, D17, U7). -/
opaque Config.openGreeting : List Byte

/-- FREE VALUE (log entry 7). What a sample latch that holds no value reads as, by the number of the event that reads
it and the line: the spec gives no value, because no run reads an unwritten latch (R24). -/
opaque Config.unwrittenLatch : Nat → Line → Bool

/-- The reference values of R6 (log entry 4), POS_OVERFLOW at its default `wrap` (U6), GREETING open. -/
def Config.reference : Config where
  wMs := 32
  inc := 8
  prescaler := 1024
  compareValue := 125
  clockKhz := 16000
  supportedPrescalers := [8, 64, 256, 1024]
  wPos := 32
  posOverflow := .wrap
  reportInterval := 10
  blankLen := 28
  baud := 57600
  greeting := Config.openGreeting

end Sys2Proof
end

