-- ==== Sys2Proof/Syntax.lean ====
section
/-!
DEFINITION. Syntax.lean: one constructor per row of spec/opcode_table.json: the fourteen events of 30_encoding.md R72,
with their operands and ENV draws as R73 lists them, and the three outcomes of DECODE of R76.
-/

namespace Sys2Proof

/-- An event of the block, or an outcome of its decoder. -/
inductive Instr where
  /-- RESET (R145). -/
  | reset
  /-- ACQUIRE with the draw `unavail` (R146). -/
  | acquire (unavail : Bool)
  /-- IOCFG (R147). -/
  | iocfg
  /-- CLOCK_INIT (R101). -/
  | clockInit
  /-- IRQ_EN (R102). -/
  | irqEn
  /-- GREET with the draws of TxWrite (R148, R53): `k` is any number of bytes, of which an event word can carry those
  below 2048 (R73; log entry 26). -/
  | greet (fail : Bool) (k : Nat)
  /-- SAMPLE with the three levels drawn, button, phase A, phase B (R120, R74). -/
  | sample (btn a b : Bool)
  /-- DECODE (R121). -/
  | decode
  /-- BTN_RESET (R125). -/
  | btnReset
  /-- REPORT with the draws of TxWrite (R126, R53), `k` as for GREET. -/
  | report (fail : Bool) (k : Nat)
  /-- SHIFT (R129). -/
  | shift
  /-- CMP_MATCH (R104). -/
  | cmpMatch
  /-- TICK (R105). -/
  | tick
  /-- NOW_MILLIS, the probe (R106). -/
  | nowMillis
  /-- QDEC, the outcome of DECODE at Q = 0x21 (R122). -/
  | qdec
  /-- QINC, the outcome of DECODE at Q = 0x12 (R123). -/
  | qinc
  /-- QNOP, the outcome of DECODE at any other vector `q` (R124). -/
  | qnop (q : QVec)
  deriving DecidableEq, Repr

end Sys2Proof
end

