-- ==== Sys2Proof/WellFormed.lean ====
section
/-!
DEFINITION. WellFormed.lean: which terms of Instr stand for an encoding (30_encoding.md R73, R76, R83).
-/

namespace Sys2Proof

/-- The draws an event word can carry: k an 11-bit count, and "when fail = 0, k must be 0" (R73, R83). -/
def drawsWellFormed (fail : Bool) (k : Nat) : Bool :=
  decide (k < 2 ^ 11) && (fail || decide (k = 0))

/-- A term is well formed when an event word or a vector Q encodes it: the draws of GREET and REPORT as R83 asks,
QNOP's vector one of the 62 that are neither 0x21 nor 0x12 (R76). -/
def Instr.wellFormed : Instr → Bool
  | .reset => true
  | .acquire _ => true
  | .iocfg => true
  | .clockInit => true
  | .irqEn => true
  | .greet fail k => drawsWellFormed fail k
  | .sample _ _ _ => true
  | .decode => true
  | .btnReset => true
  | .report fail k => drawsWellFormed fail k
  | .shift => true
  | .cmpMatch => true
  | .tick => true
  | .nowMillis => true
  | .qdec => true
  | .qinc => true
  | .qnop q => decide (q ≠ 0x21) && decide (q ≠ 0x12)

end Sys2Proof
end

