-- ==== Sys2Proof/Decode.lean ====
section
/-!
DEFINITION. Decode.lean: the decoder of the event word and of the decoder vector, total, rejecting by name, and the
encoder (30_encoding.md R71 to R77, R83 to R85).
-/

namespace Sys2Proof

/-- Why an event word names no event (R83). -/
inductive DecodeReject where
  /-- op = 0xE or op = 0xF. -/
  | reservedOp
  /-- A 1 in a bit of arg that R73 does not list for the op. -/
  | strayArg
  /-- GREET or REPORT with fail = 0 and k not 0. -/
  | countWithoutFail
  deriving DecidableEq, Repr

/-- What a row of the opcode table encodes as: an event word, or a decoder vector (R70). -/
inductive Encoding where
  | evt (w : EventWord)
  | q (v : QVec)
  deriving DecidableEq, Repr

/-- Field op, bits 15:12 (R71). -/
def opOf (w : EventWord) : BitVec 4 := w.extractLsb' 12 4

/-- Field arg, bits 11:0 (R71). -/
def argOf (w : EventWord) : EventArg := w.extractLsb' 0 12

/-- An event word from its two fields (R71). -/
def eventWord (op : BitVec 4) (arg : EventArg) : EventWord := op ++ arg

/-- An operation without operand: "arg = 0" (R73). -/
def plainEvent (arg : EventArg) (i : Instr) : Except DecodeReject Instr :=
  if arg = 0 then .ok i else .error .strayArg

/-- ACQUIRE: arg[0] = unavail (R73). -/
def acquireEvent (arg : EventArg) : Except DecodeReject Instr :=
  if arg.extractLsb' 1 11 = 0 then .ok (.acquire (arg.getLsbD 0)) else .error .strayArg

/-- SAMPLE: arg[2:0] = the S vector {btn, a, b} (R73, R74). -/
def sampleEvent (arg : EventArg) : Except DecodeReject Instr :=
  if arg.extractLsb' 3 9 = 0 then .ok (.sample (arg.getLsbD 2) (arg.getLsbD 1) (arg.getLsbD 0))
  else .error .strayArg

/-- GREET and REPORT: arg[11] = fail, arg[10:0] = k; fail = 0 with k not 0 names no event (R73, R83). -/
def writeEvent (arg : EventArg) (mk : Bool → Nat → Instr) : Except DecodeReject Instr :=
  if drawsWellFormed (arg.getLsbD 11) (arg.extractLsb' 0 11).toNat then
    .ok (mk (arg.getLsbD 11) (arg.extractLsb' 0 11).toNat)
  else .error .countWithoutFail

/-- The operation codes of R72, each with the operand of R73; 0xE and 0xF are reserved (R83). -/
def decodeFields (op : Nat) (arg : EventArg) : Except DecodeReject Instr :=
  match op with
  | 0x0 => plainEvent arg .reset
  | 0x1 => acquireEvent arg
  | 0x2 => plainEvent arg .iocfg
  | 0x3 => plainEvent arg .clockInit
  | 0x4 => plainEvent arg .irqEn
  | 0x5 => writeEvent arg .greet
  | 0x6 => sampleEvent arg
  | 0x7 => plainEvent arg .decode
  | 0x8 => plainEvent arg .btnReset
  | 0x9 => writeEvent arg .report
  | 0xA => plainEvent arg .shift
  | 0xB => plainEvent arg .cmpMatch
  | 0xC => plainEvent arg .tick
  | 0xD => plainEvent arg .nowMillis
  | _ => .error .reservedOp

/-- The event an event word names (R71 to R73, R83). -/
def decodeWord (w : EventWord) : Except DecodeReject Instr :=
  decodeFields (opOf w).toNat (argOf w)

/-- The pattern table of the decoder (R76, R77): two fully specified rows, QNOP for the other 62 values. -/
def decodeQ (v : QVec) : Instr :=
  if v = 0b100001 then .qdec
  else if v = 0b010010 then .qinc
  else .qnop v

/-- The decoder, over both formats (R70). -/
def decode : Encoding → Except DecodeReject Instr
  | .evt w => decodeWord w
  | .q v => .ok (decodeQ v)

/-- The arg of the draws of TxWrite: arg[11] = fail, arg[10:0] = k (R73). -/
def writeArg (fail : Bool) (k : Nat) : EventArg := BitVec.ofBool fail ++ BitVec.ofNat 11 k

/-- The arg of SAMPLE: S = {btn, a, b} in arg[2:0] (R74). -/
def sampleArg (btn a b : Bool) : EventArg :=
  (0 : BitVec 9) ++ (BitVec.ofBool btn ++ (BitVec.ofBool a ++ BitVec.ofBool b))

/-- The arg of ACQUIRE: arg[0] = unavail (R73). -/
def acquireArg (unavail : Bool) : EventArg := (0 : BitVec 11) ++ BitVec.ofBool unavail

/-- The encoder, from the tables of R72, R73 and R76. -/
def encode : Instr → Encoding
  | .reset => .evt (eventWord 0x0 0)
  | .acquire unavail => .evt (eventWord 0x1 (acquireArg unavail))
  | .iocfg => .evt (eventWord 0x2 0)
  | .clockInit => .evt (eventWord 0x3 0)
  | .irqEn => .evt (eventWord 0x4 0)
  | .greet fail k => .evt (eventWord 0x5 (writeArg fail k))
  | .sample btn a b => .evt (eventWord 0x6 (sampleArg btn a b))
  | .decode => .evt (eventWord 0x7 0)
  | .btnReset => .evt (eventWord 0x8 0)
  | .report fail k => .evt (eventWord 0x9 (writeArg fail k))
  | .shift => .evt (eventWord 0xA 0)
  | .cmpMatch => .evt (eventWord 0xB 0)
  | .tick => .evt (eventWord 0xC 0)
  | .nowMillis => .evt (eventWord 0xD 0)
  | .qdec => .q 0x21
  | .qinc => .q 0x12
  | .qnop q => .q q

/-- The op code of a row of R72; the outcomes of DECODE have none. -/
def opCode : Instr → Option (BitVec 4)
  | .reset => some 0x0
  | .acquire _ => some 0x1
  | .iocfg => some 0x2
  | .clockInit => some 0x3
  | .irqEn => some 0x4
  | .greet _ _ => some 0x5
  | .sample _ _ _ => some 0x6
  | .decode => some 0x7
  | .btnReset => some 0x8
  | .report _ _ => some 0x9
  | .shift => some 0xA
  | .cmpMatch => some 0xB
  | .tick => some 0xC
  | .nowMillis => some 0xD
  | .qdec => none
  | .qinc => none
  | .qnop _ => none

/-- The encoding that `nbits` bits numbered `w` stand for: 16 bits are an event word (R84), 6 bits a vector Q (R75).
DESIGN CHOICE (log entry 28): a vector Q may come in whole bytes, as 7 or 8 bits with those above the sixth 0; any other
length, and a number that does not fit its format, is no encoding. -/
def tableEncoding (nbits w : Nat) : Option Encoding :=
  if 6 ≤ nbits ∧ nbits ≤ 8 then
    if w < 2 ^ 6 then some (.q (BitVec.ofNat 6 w)) else none
  else if nbits = 16 then
    if w < 2 ^ 16 then some (.evt (BitVec.ofNat 16 w)) else none
  else none

/-- The instruction the decoder reads from a row of the opcode table. -/
def decodeTableWord (nbits w : Nat) : Option Instr :=
  match tableEncoding nbits w with
  | some e => (decode e).toOption
  | none => none

/-- A row of spec/opcode_table.json of format EVT: its mnemonic, match and mask. -/
structure EventRow where
  mnemonic : String
  pattern : EventWord
  mask : EventWord
  deriving DecidableEq, Repr

/-- The fourteen rows of format EVT, as spec/opcode_table.json gives them. -/
def eventRows : List EventRow :=
  [⟨"RESET", 0x0000, 0xFFFF⟩, ⟨"ACQUIRE", 0x1000, 0xFFFE⟩, ⟨"IOCFG", 0x2000, 0xFFFF⟩, ⟨"CLOCK_INIT", 0x3000, 0xFFFF⟩,
   ⟨"IRQ_EN", 0x4000, 0xFFFF⟩, ⟨"GREET", 0x5000, 0xF000⟩, ⟨"SAMPLE", 0x6000, 0xFFF8⟩] ++
  [⟨"DECODE", 0x7000, 0xFFFF⟩, ⟨"BTN_RESET", 0x8000, 0xFFFF⟩, ⟨"REPORT", 0x9000, 0xF000⟩, ⟨"SHIFT", 0xA000, 0xFFFF⟩,
   ⟨"CMP_MATCH", 0xB000, 0xFFFF⟩, ⟨"TICK", 0xC000, 0xFFFF⟩, ⟨"NOW_MILLIS", 0xD000, 0xFFFF⟩]

/-- A word matches a row when its bits under the mask are the row's pattern. -/
def EventRow.matches (r : EventRow) (w : EventWord) : Bool := decide (w &&& r.mask = r.pattern)

/-- The mnemonic of an event or outcome (R72, R76). -/
def mnemonicOf : Instr → String
  | .reset => "RESET"
  | .acquire _ => "ACQUIRE"
  | .iocfg => "IOCFG"
  | .clockInit => "CLOCK_INIT"
  | .irqEn => "IRQ_EN"
  | .greet _ _ => "GREET"
  | .sample _ _ _ => "SAMPLE"
  | .decode => "DECODE"
  | .btnReset => "BTN_RESET"
  | .report _ _ => "REPORT"
  | .shift => "SHIFT"
  | .cmpMatch => "CMP_MATCH"
  | .tick => "TICK"
  | .nowMillis => "NOW_MILLIS"
  | .qdec => "QDEC"
  | .qinc => "QINC"
  | .qnop _ => "QNOP"

end Sys2Proof
end

