-- ==== Sys2Proof/Machine/State.lean ====
section
/-!
DEFINITION. Machine/State.lean: the state of the block (10_state.md R20), the model's own fields beside it, the
reasons a step stops, and the state after reset (R35).
-/

namespace Sys2Proof.Machine

/-- SEQ, the sequencer: the next event MAIN will perform, or HALT (R27). -/
inductive Seq where
  | acquire
  | iocfg
  | clockInit
  | irqEn
  | greet
  | sample
  | decode
  | btnReset
  | report
  | shift
  | halt
  deriving DecidableEq, Repr

/-- FAULT, the fatal error recorded (R31), with the codes of R151. -/
inductive FatalCode where
  /-- 0: none. -/
  | none
  /-- 1: ConfigError, raised by CLOCK_INIT. -/
  | configError
  /-- 2: PeripheralUnavailable, raised by ACQUIRE. -/
  | peripheralUnavailable
  /-- 3: OutputWriteFailure, raised by GREET and REPORT. -/
  | outputWriteFailure
  deriving DecidableEq, Repr

/-- The agents of R5. -/
inductive Agent where
  | main
  | tmr
  | irq
  | env
  deriving DecidableEq, Repr

/-- An entry of the schedule the machine is given (log entries 1 and 26): an event word (R71), or a failing write whose
count is any number of bytes, as R53 has it, where an event word's field has 11 bits. -/
inductive TraceEntry where
  | word (w : EventWord)
  /-- GREET with fail = 1 after `k` bytes. -/
  | greetFail (k : Nat)
  /-- REPORT with fail = 1 after `k` bytes. -/
  | reportFail (k : Nat)
  deriving DecidableEq, Repr

/-- The state. The first sixteen fields are the spec's (R20); `cfg`, `trace` and `eventNo` are the model's own. -/
structure State where
  /-- MILLIS, an unsigned number of cfg.wMs bits (R21). -/
  millis : Nat
  /-- CUR_A, phase A of the one-back pair (R22). -/
  curA : Bool
  /-- CUR_B, phase B of the one-back pair (R22). -/
  curB : Bool
  /-- PREV_A, phase A of the two-back pair (R22). -/
  prevA : Bool
  /-- PREV_B, phase B of the two-back pair (R22). -/
  prevB : Bool
  /-- POS, a signed number of cfg.wPos bits (R23). -/
  pos : Int
  /-- S_BTN, or unwritten (R24). -/
  sBtn : Option Bool
  /-- S_A, or unwritten (R24). -/
  sA : Option Bool
  /-- S_B, or unwritten (R24). -/
  sB : Option Bool
  /-- T_LATCH, or unwritten (R25). -/
  tLatch : Option Nat
  /-- SEQ (R27). -/
  seq : Seq
  /-- GIE, the global interrupt enable (R28). -/
  gie : Bool
  /-- IRQ_PEND, the latched compare-match edge (R29). -/
  irqPend : Bool
  /-- TMR_RUN: the timer is configured and armed (R30). -/
  tmrRun : Bool
  /-- FAULT (R31). -/
  fault : FatalCode
  /-- TX, the bytes written to the serial sink since reset, oldest first (R32). -/
  tx : List Byte
  /-- The parameters (R6): configuration, which no event writes (R36; log entry 3). -/
  cfg : Config
  /-- What remains of the trace (R71, R87; log entry 1). -/
  trace : List TraceEntry
  /-- How many entries have been taken: the argument of the free value of an unwritten latch (log entry 7). -/
  eventNo : Nat
  deriving DecidableEq, Repr

/-- What stops the machine with a fault of the model. The block's three fatal errors are NOT here: they are next
states, with FAULT written and SEQ at HALT (R153). -/
inductive Fault where
  /-- Raised by DECODE, QDEC and QINC when POS would leave its range and POS_OVERFLOW is `fault` (U6). Safe: the model
  stops where the default wraps, "which errs toward unprovable" (D6). -/
  | posOverflow
  deriving DecidableEq, Repr

/-- Why a step has no meaning. -/
inductive Refusal where
  /-- Raised by exec's arms for an instruction that has no meaning yet. Safe. -/
  | notModelled (mnemonic : String)
  /-- Raised by a meaning whose event is not enabled in this state: "A trace that is not well-formed describes no
  execution of the hardware and the model refuses it" (R87). Safe. -/
  | notEnabled (mnemonic : String)
  /-- Raised by the fetch of a word that names no event: "Such words are refused by the model's decoder" (R83). Safe. -/
  | malformedWord (w : EventWord) (why : DecodeReject)
  /-- Raised by the fetch under parameters that break R6 or R7: "the model refuses to instantiate it" (R7). Safe. -/
  | configRefused
  /-- Raised by the fetch when the trace holds no further event (log entry 1). Safe. -/
  | traceEnded
  deriving DecidableEq, Repr

/-- The answer of a meaning. -/
abbrev Result := Host.Outcome State Fault Refusal

/-- The machine after reset: R35 and R180, with the reference parameters, no trace and nothing taken from it. -/
def State.reset : State where
  millis := 0
  curA := false
  curB := false
  prevA := false
  prevB := false
  pos := 0
  sBtn := none
  sA := none
  sB := none
  tLatch := none
  seq := .acquire
  gie := false
  irqPend := false
  tmrRun := false
  fault := .none
  tx := []
  cfg := Config.reference
  trace := []
  eventNo := 0

end Sys2Proof.Machine
end

