-- ==== Sys2Proof/Machine/Ops.lean ====
section
/-!
DEFINITION. Machine/Ops.lean: the named updates of the state, the wrapping arithmetic of 00_scope.md R8, the access
primitives of R9 (latches, CsRead, TxWrite), taking a fatal error (60_exceptions.md R153), entering and leaving the
interrupt handler (R160, R161), and taking the next event of the trace.
-/

namespace Sys2Proof.Machine

/-- MILLIS <- v. -/
def State.setMillis (s : State) (v : Nat) : State := { s with millis := v }
/-- POS <- v. -/
def State.setPos (s : State) (v : Int) : State := { s with pos := v }
/-- S_BTN, S_A, S_B <- btn, a, b. -/
def State.setSamples (s : State) (btn a b : Bool) : State := { s with sBtn := some btn, sA := some a, sB := some b }
/-- CUR_A, CUR_B, PREV_A, PREV_B <- a, b, pa, pb. -/
def State.setHistory (s : State) (a b pa pb : Bool) : State := { s with curA := a, curB := b, prevA := pa, prevB := pb }
/-- T_LATCH <- v. -/
def State.setTLatch (s : State) (v : Nat) : State := { s with tLatch := some v }
/-- SEQ <- q. -/
def State.setSeq (s : State) (q : Seq) : State := { s with seq := q }
/-- GIE <- b. -/
def State.setGie (s : State) (b : Bool) : State := { s with gie := b }
/-- IRQ_PEND <- b. -/
def State.setIrqPend (s : State) (b : Bool) : State := { s with irqPend := b }
/-- TMR_RUN <- b. -/
def State.setTmrRun (s : State) (b : Bool) : State := { s with tmrRun := b }
/-- FAULT <- c. -/
def State.setFault (s : State) (c : FatalCode) : State := { s with fault := c }
/-- TX <- t. -/
def State.setTx (s : State) (t : List Byte) : State := { s with tx := t }
/-- Move past the entry just taken: the rest of the trace is `rest`. -/
def State.consume (s : State) (rest : List TraceEntry) : State := { s with trace := rest, eventNo := s.eventNo + 1 }

/-- The number a fault code stands for (R151). -/
def FatalCode.code : FatalCode → Nat
  | .none => 0
  | .configError => 1
  | .peripheralUnavailable => 2
  | .outputWriteFailure => 3

/-- `+_N` on u_N: addition modulo 2^N (R8). -/
def addU (n a b : Nat) : Nat := (a + b) % 2 ^ n

/-- The value of s_N whose bit pattern is that of `v` modulo 2^N (R8). -/
def wrapS (n : Nat) (v : Int) : Int := Int.bmod v (2 ^ n)

/-- `v` is a value of s_N: -2^(N-1) to 2^(N-1) - 1 (R8). -/
def fitsS (n : Nat) (v : Int) : Bool := decide (-(2 ^ (n - 1)) ≤ v) && decide (v < 2 ^ (n - 1))

/-- The constraints of R6 and the exact formula of R7 on the parameters. PRESCALER's membership in the supported set is
not one of them: CLOCK_INIT checks it (R101, R183). -/
def configAccepted (c : Config) : Bool :=
  decide (1 ≤ c.wMs) && decide (1 ≤ c.inc) && decide (c.inc < 2 ^ c.wMs) &&
  decide (c.inc * c.clockKhz = c.prescaler * c.compareValue) &&
  decide (1 ≤ c.compareValue) && decide (1 ≤ c.clockKhz) &&
  decide (c.supportedPrescalers ≠ []) && c.supportedPrescalers.all (fun p => decide (1 ≤ p)) &&
  decide (2 ≤ c.wPos) && decide (1 ≤ c.reportInterval)

/-- An answer for an event that is enabled under `ok`, refused by name where it is not (R87). -/
def guarded (mnemonic : String) (ok : Bool) (r : Result) : Result :=
  if ok then r else .refused (.notEnabled mnemonic)

/-- The value of the latch of a line. A latch that holds no value reads as a free value (R24; log entry 7). -/
def State.latch (s : State) : Line → Bool
  | .btn => s.sBtn.getD (Config.unwrittenLatch s.eventNo .btn)
  | .phA => s.sA.getD (Config.unwrittenLatch s.eventNo .phA)
  | .phB => s.sB.getD (Config.unwrittenLatch s.eventNo .phB)

/-- CsRead: save GIE, mask, read the whole of MILLIS, restore GIE (R58). -/
def csRead (s : State) : Nat × State :=
  let saved := s.gie
  let inside := s.setGie false
  (inside.millis, inside.setGie saved)

/-- Taking a fatal error, "FAULT <- code ; SEQ <- HALT" (R153): nothing is saved and no handler runs. -/
def raise (c : FatalCode) (s : State) : State :=
  (s.setFault c).setSeq .halt

/-- Entry of the compare-match handler: IRQ_PEND and GIE cleared; the saved GIE beside the state (R160). -/
def irqEnter (s : State) : Bool × State :=
  (s.gie, (s.setGie false).setIrqPend false)

/-- Return from the handler: GIE as it was on entry (R161). -/
def irqReturn (saved : Bool) (s : State) : State := s.setGie saved

/-- The handler's read-modify-write, MILLIS <- MILLIS +_W_MS INC (R59). -/
def addMillis (s : State) : State := s.setMillis (addU s.cfg.wMs s.millis s.cfg.inc)

/-- Entry, body and return of the handler, one atomic event (R105, R161). -/
def runHandler (s : State) : State :=
  irqReturn (irqEnter s).1 (addMillis (irqEnter s).2)

/-- The compare-match edge: IRQ_PEND <- true (R104). -/
def latchEdge (s : State) : State := s.setIrqPend true

/-- The draws that TxWrite admits for a message: a failing write accepts a proper prefix, so k < n, and an empty message
cannot fail (R53, R87). -/
def writeAdmits (msg : List Byte) (fail : Bool) (k : Nat) : Bool :=
  !fail || decide (k < msg.length)

/-- TxWrite: the whole message, or its first k bytes and then OutputWriteFailure (R53). -/
def txWrite (msg : List Byte) (fail : Bool) (k : Nat) (s : State) : State :=
  if fail then raise .outputWriteFailure (s.setTx (s.tx ++ msg.take k))
  else s.setTx (s.tx ++ msg)

/-- `TxWrite(msg) ; SEQ <- next`, the second "only if no fault was raised" (R126, R148). -/
def txWriteThen (msg : List Byte) (fail : Bool) (k : Nat) (next : Seq) (s : State) : State :=
  if fail then txWrite msg fail k s else (txWrite msg fail k s).setSeq next

/-- RESET: every element of the block at its value of R35. The parameters, the rest of the trace and the count of
events taken are not elements of the block and stay (log entry 24). -/
def resetBlock (s : State) : State :=
  { State.reset with cfg := s.cfg, trace := s.trace, eventNo := s.eventNo }

/-- The agent of an event (R5, R72); the outcomes of DECODE are MAIN's. -/
def agentOf : Instr → Agent
  | .reset => .env
  | .acquire _ => .main
  | .iocfg => .main
  | .clockInit => .main
  | .irqEn => .main
  | .greet _ _ => .main
  | .sample _ _ _ => .main
  | .decode => .main
  | .btnReset => .main
  | .report _ _ => .main
  | .shift => .main
  | .cmpMatch => .tmr
  | .tick => .irq
  | .nowMillis => .env
  | .qdec => .main
  | .qinc => .main
  | .qnop _ => .main

/-- The event that an entry of the trace stands for; a malformed word is refused (R83). -/
def readEntry : TraceEntry → Except Refusal Instr
  | .word w =>
    match decode (.evt w) with
    | .ok i => .ok i
    | .error why => .error (.malformedWord w why)
  | .greetFail k => .ok (.greet true k)
  | .reportFail k => .ok (.report true k)

/-- Take the next event of the trace: the event it names and the state past its entry (R71, R87). -/
def fetch (s : State) : Except Refusal (Instr × State) :=
  if configAccepted s.cfg then
    match s.trace with
    | [] => .error .traceEnded
    | entry :: rest =>
      match readEntry entry with
      | .ok i => .ok (i, s.consume rest)
      | .error why => .error why
  else .error .configRefused

/-- Leave HALT, as RESET and a new boot would, keeping the data registers. -/
def wake (s : State) : State :=
  if s.seq = .halt then (s.setFault .none).setSeq .sample else s

/-- The latches as SAMPLE leaves them: one that holds no value is written low (log entry 12). -/
def withLatches (s : State) : State :=
  s.setSamples (s.sBtn.getD false) (s.sA.getD false) (s.sB.getD false)

/-- Bring the machine to the point where it takes the event `i` next: SEQ names it (and the latches hold values where
SEQ says SAMPLE has run), or its enabling flags are set (R27, R87; log entry 12). -/
def readyFor (i : Instr) (s : State) : State :=
  match i with
  | .reset => s
  | .acquire _ => (wake s).setSeq .acquire
  | .iocfg => (wake s).setSeq .iocfg
  | .clockInit => (wake s).setSeq .clockInit
  | .irqEn => (wake s).setSeq .irqEn
  | .greet _ _ => (wake s).setSeq .greet
  | .sample _ _ _ => (wake s).setSeq .sample
  | .decode => (withLatches (wake s)).setSeq .decode
  | .btnReset => (withLatches (wake s)).setSeq .btnReset
  | .report _ _ => (withLatches (wake s)).setSeq .report
  | .shift => (withLatches (wake s)).setSeq .shift
  | .cmpMatch => (wake s).setTmrRun true
  | .tick => (((wake s).setTmrRun true).setGie true).setIrqPend true
  | .nowMillis => wake s
  | .qdec => ((wake s).setSamples (s.sBtn.getD false) true false |>.setHistory false false false true).setSeq .decode
  | .qinc => ((wake s).setSamples (s.sBtn.getD false) false true |>.setHistory false false true false).setSeq .decode
  | .qnop q =>
    ((wake s).setSamples (s.sBtn.getD false) (q.getLsbD 5) (q.getLsbD 4) |>.setHistory (q.getLsbD 3) (q.getLsbD 2)
      (q.getLsbD 1) (q.getLsbD 0)).setSeq .decode

/-- The event word that makes the machine perform what is encoded: an event word itself; for a vector Q, the word of
DECODE, which forms that vector from the latches and the history (R75, R121). -/
def carrierWord : Encoding → EventWord
  | .evt w => w
  | .q _ => 0x7000

/-- Put an encoded row of the opcode table next on the trace, the machine ready for it. -/
def placeEncoding (e : Encoding) (s : State) : State :=
  match decode e with
  | .ok i => { readyFor i s with trace := .word (carrierWord e) :: s.trace }
  | .error _ => { s with trace := .word (carrierWord e) :: s.trace }

/-- The body of State.withFetchWord: place what `nbits` bits numbered `w` stand for (log entry 12). DESIGN CHOICE (log
entry 28): a number that is no encoding places nothing. -/
def placeTableWord (s : State) (nbits w : Nat) : State :=
  match tableEncoding nbits w with
  | some e => placeEncoding e s
  | none => s

end Sys2Proof.Machine
end

