-- ==== Sys2Proof/Machine/Operands.lean ====
section
/-!
DEFINITION. Machine/Operands.lean: the operand forms: the decoder vector Q (30_encoding.md R75), the outcome of the
pattern match (R76), and the bytes of the status line (R79 to R81).
-/

namespace Sys2Proof.Machine

/-- A vector Q from its six bits, most significant first (R75). -/
def qOf (sa sb ca cb pa pb : Bool) : QVec :=
  BitVec.ofBool sa ++ (BitVec.ofBool sb ++ (BitVec.ofBool ca ++ (BitVec.ofBool cb ++ (BitVec.ofBool pa ++ BitVec.ofBool pb))))

/-- Q <- {S_A, S_B, CUR_A, CUR_B, PREV_A, PREV_B} (R75, R121). -/
def qVector (s : State) : QVec :=
  qOf (s.latch .phA) (s.latch .phB) s.curA s.curB s.prevA s.prevB

/-- The outcome that DECODE takes at a vector Q: a row of the pattern table (R76). -/
def outcomeOf (q : QVec) : Instr := decodeQ q

/-- What a row of the pattern table adds to POS: QDEC -1, QINC +1, any other row 0 (R76, R77). -/
def countOf : Instr → Int
  | .qdec => -1
  | .qinc => 1
  | _ => 0

/-- The bytes of R80. -/
def spaceByte : Byte := 0x20
/-- Carriage return (R80). -/
def crByte : Byte := 0x0D
/-- The minus sign (R80). -/
def minusByte : Byte := 0x2D
/-- The digit of a number below ten: `0` to `9` are 0x30 to 0x39 (R80). -/
def digitByte (d : Nat) : Byte := BitVec.ofNat 8 (0x30 + d)

/-- The nine bytes of `"counter: "` (R80). -/
def counterText : List Byte := [0x63, 0x6F, 0x75, 0x6E, 0x74, 0x65, 0x72, 0x3A, 0x20]

/-- `digits(m)` of R81, most significant first, with `fuel` digits at most. -/
def digitsFuel : Nat → Nat → List Byte
  | 0, m => [digitByte (m % 10)]
  | fuel + 1, m => if m < 10 then [digitByte m] else digitsFuel fuel (m / 10) ++ [digitByte (m % 10)]

/-- `digits(m)` of R81: a number has no more decimal than binary digits, so the fuel suffices. -/
def digits (m : Nat) : List Byte := digitsFuel m.log2 m

/-- `dec(v)`, the decimal text of a signed number (R81). -/
def decText (v : Int) : List Byte :=
  if v < 0 then minusByte :: digits (-v).toNat else digits v.toNat

/-- `StatusLine(v)` with BLANK_LEN leading spaces (R79). -/
def statusLine (c : Config) (v : Int) : List Byte :=
  List.replicate c.blankLen spaceByte ++ [crByte] ++ counterText ++ decText v ++ [crByte]

end Sys2Proof.Machine
end

