-- ==== Sys2Proof/Machine/Flags.lean ====
section
/-!
DEFINITION. Machine/Flags.lean: the conditions the events test and the flag computations: the sequencer's test (R27),
the enabling of CMP_MATCH, TICK and NOW_MILLIS (R104 to R106), the report gate (R127), the change detector (R78) and
the range of POS (R23, U6).
-/

namespace Sys2Proof.Machine

/-- "SEQ names it" (R27, R87). -/
def atSeq (s : State) (q : Seq) : Bool := decide (s.seq = q)

/-- The block has not halted. -/
def running (s : State) : Bool := decide (s.seq ≠ .halt)

/-- The source is armed: CMP_MATCH is enabled (R104, R157). -/
def edgeEnabled (s : State) : Bool := s.tmrRun && running s

/-- An edge is pending and interrupts are globally enabled: TICK is enabled (R105, R157). -/
def tickEnabled (s : State) : Bool := s.irqPend && s.gie && running s

/-- PRESCALER is a member of SUPPORTED_PRESCALERS (R101). -/
def prescalerSupported (c : Config) : Bool := decide (c.prescaler ∈ c.supportedPrescalers)

/-- The gate: the unsigned remainder of the value read is 0 (R127). -/
def gateOpen (c : Config) (t : Nat) : Bool := decide (t % c.reportInterval = 0)

/-- The draws REPORT admits: with fail = 1 the gate is open and k is less than the line's length (R87, R126). -/
def reportAdmits (s : State) (fail : Bool) (k : Nat) : Bool :=
  !fail || (gateOpen s.cfg s.millis && writeAdmits (statusLine s.cfg s.pos) fail k)

/-- `changed = (S_A != CUR_A) or (S_B != CUR_B)` (R78). -/
def changed (s : State) : Bool := (s.latch .phA != s.curA) || (s.latch .phB != s.curB)

/-- A POS value that the model stops at: past the range, under POS_OVERFLOW = fault (U6). -/
def posFaults (c : Config) (v : Int) : Bool := decide (c.posOverflow = .fault) && !fitsS c.wPos v

end Sys2Proof.Machine
end

