-- ==== Sys2Proof/Machine/Boot.lean ====
section
/-!
DEFINITION. Machine/Boot.lean: RESET, ACQUIRE, IOCFG and GREET (42_boot.md R145 to R148).
-/

namespace Sys2Proof.Machine

/-- RESET (R145): enabled always. -/
def execReset (s : State) : Result := .next (resetBlock s)

/-- ACQUIRE (R146): unavailable peripherals raise PeripheralUnavailable. -/
def execAcquire (unavail : Bool) (s : State) : Result :=
  guarded "ACQUIRE" (atSeq s .acquire)
    (.next (if unavail then raise .peripheralUnavailable s else s.setSeq .iocfg))

/-- IOCFG (R147): it changes no element but SEQ. -/
def execIocfg (s : State) : Result :=
  guarded "IOCFG" (atSeq s .iocfg) (.next (s.setSeq .clockInit))

/-- GREET (R148): one TxWrite of GREETING. -/
def execGreet (fail : Bool) (k : Nat) (s : State) : Result :=
  guarded "GREET" (atSeq s .greet && writeAdmits s.cfg.greeting fail k)
    (.next (txWriteThen s.cfg.greeting fail k .sample s))

end Sys2Proof.Machine
end

