-- ==== Sys2Proof/Machine/Clock.lean ====
section
/-!
DEFINITION. Machine/Clock.lean: CLOCK_INIT, IRQ_EN, CMP_MATCH, TICK and NOW_MILLIS (40_clock.md R101 to R106).
-/

namespace Sys2Proof.Machine

/-- CLOCK_INIT (R101): an unsupported prescaler raises ConfigError and changes nothing else. -/
def execClockInit (s : State) : Result :=
  guarded "CLOCK_INIT" (atSeq s .clockInit)
    (.next (if prescalerSupported s.cfg then ((s.setMillis 0).setTmrRun true).setSeq .irqEn
      else raise .configError s))

/-- IRQ_EN (R102). -/
def execIrqEn (s : State) : Result :=
  guarded "IRQ_EN" (atSeq s .irqEn) (.next ((s.setGie true).setSeq .greet))

/-- CMP_MATCH (R104): with IRQ_PEND already true the edge is absorbed (R29). -/
def execCmpMatch (s : State) : Result :=
  guarded "CMP_MATCH" (edgeEnabled s) (.next (latchEdge s))

/-- TICK (R105): the handler, one atomic event. -/
def execTick (s : State) : Result :=
  guarded "TICK" (tickEnabled s) (.next (runHandler s))

/-- NOW_MILLIS (R106): T_LATCH <- CsRead(); the value returned is T_LATCH. -/
def execNowMillis (s : State) : Result :=
  guarded "NOW_MILLIS" (running s) (.next ((csRead s).2.setTLatch (csRead s).1))

end Sys2Proof.Machine
end

