-- ==== Sys2Proof/Machine/Loop.lean ====
section
/-!
DEFINITION. Machine/Loop.lean: SAMPLE, DECODE with its outcomes QDEC, QINC and QNOP, BTN_RESET, REPORT and SHIFT
(41_decoder_loop.md R120 to R129).
-/

namespace Sys2Proof.Machine

/-- SAMPLE (R120): three reads in the order button, A, B, each the draw of ENV for its line. -/
def execSample (btn a b : Bool) (s : State) : Result :=
  guarded "SAMPLE" (atSeq s .sample) (.next ((s.setSamples btn a b).setSeq .decode))

/-- POS stepped by -1 or +1, then SEQ <- BTN_RESET (R122, R123): wrapped to W_POS bits, or the model's fault under
POS_OVERFLOW = fault (R23, U6). -/
def stepPos (d : Int) (s : State) : Result :=
  if posFaults s.cfg (s.pos + d) then .fault .posOverflow
  else .next ((s.setPos (wrapS s.cfg.wPos (s.pos + d))).setSeq .btnReset)

/-- The effect of an outcome of the pattern match: QDEC and QINC step POS, any other leaves it (R122 to R124). -/
def applyOutcome (o : Instr) (s : State) : Result :=
  if countOf o = 0 then .next (s.setSeq .btnReset) else stepPos (countOf o) s

/-- DECODE (R121): the outcome at the vector formed from the fresh sample and the history. -/
def execDecode (s : State) : Result :=
  guarded "DECODE" (atSeq s .decode) (applyOutcome (outcomeOf (qVector s)) s)

/-- QDEC (R122), the DECODE whose vector is 0x21. -/
def execQdec (s : State) : Result :=
  guarded "QDEC" (atSeq s .decode && decide (outcomeOf (qVector s) = .qdec)) (applyOutcome .qdec s)

/-- QINC (R123), the DECODE whose vector is 0x12. -/
def execQinc (s : State) : Result :=
  guarded "QINC" (atSeq s .decode && decide (outcomeOf (qVector s) = .qinc)) (applyOutcome .qinc s)

/-- QNOP (R124), the DECODE whose vector is `q`, one of the other 62. -/
def execQnop (q : QVec) (s : State) : Result :=
  guarded "QNOP" (atSeq s .decode && decide (outcomeOf (qVector s) = .qnop q)) (applyOutcome (.qnop q) s)

/-- BTN_RESET (R125): the line high, "button not pressed", resets POS. -/
def execBtnReset (s : State) : Result :=
  guarded "BTN_RESET" (atSeq s .btnReset)
    (.next ((if s.latch .btn then s.setPos 0 else s).setSeq .report))

/-- The event REPORT once enabled: read the clock, test the gate on the value read, write the line (R126 to R128). -/
def reportBody (fail : Bool) (k : Nat) (s : State) : State :=
  let t := (csRead s).1
  let s1 := (csRead s).2.setTLatch t
  if gateOpen s1.cfg t then txWriteThen (statusLine s1.cfg s1.pos) fail k .shift s1 else s1.setSeq .shift

/-- REPORT (R126). -/
def execReport (fail : Bool) (k : Nat) (s : State) : Result :=
  guarded "REPORT" (atSeq s .report && reportAdmits s fail k) (.next (reportBody fail k s))

/-- SHIFT (R129): on a change, PREV <- CUR and CUR <- the fresh pair. -/
def execShift (s : State) : Result :=
  guarded "SHIFT" (atSeq s .shift)
    (.next ((if changed s then s.setHistory (s.latch .phA) (s.latch .phB) s.curA s.curB else s).setSeq .sample))

end Sys2Proof.Machine
end

