-- ==== Sys2Proof/Machine/Dispatch.lean ====
section
/-!
DEFINITION. Machine/Dispatch.lean: one arm per constructor of Instr.
-/

namespace Sys2Proof.Machine

def exec (i : Instr) (s : State) : Host.Outcome State Fault Refusal :=
  match i with
  | .reset => Sys2Proof.Machine.execReset s
  | .acquire unavail => Sys2Proof.Machine.execAcquire unavail s
  | .iocfg => Sys2Proof.Machine.execIocfg s
  | .clockInit => Sys2Proof.Machine.execClockInit s
  | .irqEn => Sys2Proof.Machine.execIrqEn s
  | .greet fail k => Sys2Proof.Machine.execGreet fail k s
  | .sample btn a b => Sys2Proof.Machine.execSample btn a b s
  | .decode => Sys2Proof.Machine.execDecode s
  | .btnReset => Sys2Proof.Machine.execBtnReset s
  | .report fail k => Sys2Proof.Machine.execReport fail k s
  | .shift => Sys2Proof.Machine.execShift s
  | .cmpMatch => Sys2Proof.Machine.execCmpMatch s
  | .tick => Sys2Proof.Machine.execTick s
  | .nowMillis => Sys2Proof.Machine.execNowMillis s
  | .qdec => Sys2Proof.Machine.execQdec s
  | .qinc => Sys2Proof.Machine.execQinc s
  | .qnop q => Sys2Proof.Machine.execQnop q s

end Sys2Proof.Machine
end

