-- ==== Sys2Proof/Machine/Step.lean ====
section
/-!
DEFINITION. Machine/Step.lean: one step takes the next event of the trace and performs it.
-/

namespace Sys2Proof.Machine

/-- One event of one agent (30_encoding.md R71, R87). -/
def step (s : State) : Host.Outcome State Fault Refusal :=
  match fetch s with
  | .ok (i, s') => exec i s'
  | .error r => .refused r

/-- `s` with what `nbits` bits numbered `w` encode placed where the next step takes its event (log entry 12). -/
def State.withFetchWord (s : State) (nbits w : Nat) : State := placeTableWord s nbits w

end Sys2Proof.Machine
end

