-- ==== Sys2Proof/Machine/Observe.lean ====
section
/-!
DEFINITION. Machine/Observe.lean: what an observer of the block can see (00_scope.md R10).
-/

namespace Sys2Proof.Machine

/-- What an observer can see after an event (R10): TX, whether the block halted and why, and the value that a NOW_MILLIS
read returned. -/
structure Observation where
  tx : List Byte
  halted : Bool
  fault : FatalCode
  returned : Option Nat
  deriving DecidableEq, Repr

/-- The value an event returns to ENV: T_LATCH after the probe NOW_MILLIS, "the returned value is T_LATCH" (R106).
DEDUCED (log entry 29): the clock read inside REPORT returns its value to MAIN, and no other event returns one. -/
def returnedValue : Instr → State → Option Nat
  | .reset, _ => none
  | .acquire _, _ => none
  | .iocfg, _ => none
  | .clockInit, _ => none
  | .irqEn, _ => none
  | .greet _ _, _ => none
  | .sample _ _ _, _ => none
  | .decode, _ => none
  | .btnReset, _ => none
  | .report _ _, _ => none
  | .shift, _ => none
  | .cmpMatch, _ => none
  | .tick, _ => none
  | .nowMillis, t => t.tLatch
  | .qdec, _ => none
  | .qinc, _ => none
  | .qnop _, _ => none

/-- What an observer sees when the event `i` has left the block in `t` (R10). -/
def observe (i : Instr) (t : State) : Observation :=
  ⟨t.tx, decide (t.seq = .halt), t.fault, returnedValue i t⟩

/-- The observations of a run, one for each event performed (R10, R60). -/
def observations : List Instr → State → List Observation
  | [], _ => []
  | i :: rest, s =>
    match exec i s with
    | .next t => observe i t :: observations rest t
    | .fault _ => []
    | .refused _ => []

end Sys2Proof.Machine
end

