-- ==== Sys2Proof/Machine/Refinement.lean ====
section
/-!
DEFINITION. Machine/Refinement.lean: the read of MILLIS split into part-reads, with an interrupt injected between them
(20_memory.md R63, 95_test_vectors.md V-CLK-7): the harness of the source's no-torn-reads property.
-/

namespace Sys2Proof.Machine

/-- An interrupt injected between two sub-steps: the compare-match edge, and the handler where it is enabled; what is
not enabled does not happen (R63, R157). -/
def injectIrq (s : State) : State :=
  let edge := if edgeEnabled s then latchEdge s else s
  if tickEnabled edge then runHandler edge else edge

/-- Part `i` of MILLIS on a data path of `d` bits. -/
def partOf (d i : Nat) (s : State) : Nat := s.millis / 2 ^ (d * i) % 2 ^ d

/-- Part-reads from part `i` on, one for each entry of `inj`, lowest part first; a true entry injects an interrupt
after its part-read. The value assembled, and the state left. -/
def readParts (d : Nat) : List Bool → Nat → State → Nat × State
  | [], _, s => (0, s)
  | hit :: rest, i, s =>
    let low := partOf d i s * 2 ^ (d * i)
    let later := readParts d rest (i + 1) (if hit then injectIrq s else s)
    (low + later.1, later.2)

/-- The critical-section read in part-reads: GIE false from the first to the last, then restored (R58, R63). -/
def maskedRead (d : Nat) (inj : List Bool) (s : State) : Nat × State :=
  let r := readParts d inj 0 (s.setGie false)
  (r.1, r.2.setGie s.gie)

/-- The same read without the masking, which the source forbids (R63, R184). -/
def unmaskedRead (d : Nat) (inj : List Bool) (s : State) : Nat × State := readParts d inj 0 s

end Sys2Proof.Machine
end

