-- ==== Sys2Proof/Machine/Trace.lean ====
section
/-!
DEFINITION. Machine/Trace.lean: traces: runs of events, the pseudo-events of 30_encoding.md R86, well-formed traces
(R87) and the textual form of a trace (R85).
-/

namespace Sys2Proof.Machine

/-- The events of a trace performed in order, stopping at the first that answers no next state (R60, R87). -/
def runEvents : List Instr → State → Result
  | [], s => .next s
  | i :: rest, s =>
    match exec i s with
    | .next t => runEvents rest t
    | .fault f => .fault f
    | .refused r => .refused r

/-- Pseudo-event BOOT (R86, R149). -/
def bootEvents : List Instr := [.acquire false, .iocfg, .clockInit, .irqEn, .greet false 0]

/-- Pseudo-event ITER btn a b (R86, R130). -/
def iterEvents (btn a b : Bool) : List Instr := [.sample btn a b, .decode, .btnReset, .report false 0, .shift]

/-- Pseudo-event ITER btn a b fail@k (R86). -/
def iterFailEvents (btn a b : Bool) (k : Nat) : List Instr :=
  [.sample btn a b, .decode, .btnReset, .report true k, .shift]

/-- Pseudo-event IRQ (R86). -/
def irqEvents : List Instr := [.cmpMatch, .tick]

/-- Pseudo-event IRQ*n (R86). -/
def irqTimes : Nat → List Instr
  | 0 => []
  | n + 1 => irqEvents ++ irqTimes n

/-- A well-formed trace: every entry names an event, and every event is enabled in the state the earlier ones produce
(R87). Each entry taken counts in `eventNo`, as a step counts it. An event the model answers by a fault of its own (U6)
was enabled, and nothing follows it. -/
def wellFormedTrace : List TraceEntry → State → Bool
  | [], _ => true
  | entry :: rest, s =>
    match readEntry entry with
    | .error _ => false
    | .ok i =>
      match exec i { s with eventNo := s.eventNo + 1 } with
      | .next t => wellFormedTrace rest t
      | .fault _ => rest.isEmpty
      | .refused _ => false

/-- A boolean as a trace writes it: 0 or 1 (R85). -/
def bitText (b : Bool) : String := if b then "1" else "0"

/-- The operand text of the draws of TxWrite: nothing, or ` fail@k` (R85). -/
def failText (fail : Bool) (k : Nat) : String := if fail then " fail@" ++ toString k else ""

/-- The line of a trace for an event (R85); an outcome of DECODE has none. -/
def traceLine : Instr → Option String
  | .reset => some "RESET"
  | .acquire unavail => some (if unavail then "ACQUIRE unavail" else "ACQUIRE")
  | .iocfg => some "IOCFG"
  | .clockInit => some "CLOCK_INIT"
  | .irqEn => some "IRQ_EN"
  | .greet fail k => some ("GREET" ++ failText fail k)
  | .sample btn a b => some ("SAMPLE " ++ bitText btn ++ " " ++ bitText a ++ " " ++ bitText b)
  | .decode => some "DECODE"
  | .btnReset => some "BTN_RESET"
  | .report fail k => some ("REPORT" ++ failText fail k)
  | .shift => some "SHIFT"
  | .cmpMatch => some "CMP_MATCH"
  | .tick => some "TICK"
  | .nowMillis => some "NOW_MILLIS"
  | .qdec => none
  | .qinc => none
  | .qnop _ => none

/-- The characters before a comment, which `;` starts (R85). -/
def beforeComment : List Char → List Char
  | [] => []
  | c :: rest => if c = ';' then [] else c :: beforeComment rest

/-- The tokens between spaces; `cur` is the token being read, last character first. -/
def splitTokens : List Char → List Char → List String
  | [], cur => if cur = [] then [] else [String.ofList cur.reverse]
  | c :: rest, cur =>
    if c = ' ' then
      if cur = [] then splitTokens rest [] else String.ofList cur.reverse :: splitTokens rest []
    else splitTokens rest (c :: cur)

/-- A number written in decimal digits, after `acc`. -/
def readDigits : List Char → Nat → Option Nat
  | [], acc => some acc
  | c :: rest, acc => if c.isDigit then readDigits rest (acc * 10 + (c.toNat - '0'.toNat)) else none

/-- The operand `fail@k`, k an 11-bit count (R73, R85). -/
def readFail (token : String) : Option Nat :=
  match token.toList with
  | 'f' :: 'a' :: 'i' :: 'l' :: '@' :: c :: rest =>
    match readDigits (c :: rest) 0 with
    | some k => if k < 2 ^ 11 then some k else none
    | none => none
  | _ => none

/-- The operand 0 or 1 (R85). -/
def readBit (token : String) : Option Bool :=
  if token = "0" then some false else if token = "1" then some true else none

/-- An operation without operands, by its mnemonic (R85). -/
def readPlain (m : String) : Option Instr :=
  if m = "RESET" then some .reset
  else if m = "ACQUIRE" then some (.acquire false)
  else if m = "IOCFG" then some .iocfg
  else if m = "CLOCK_INIT" then some .clockInit
  else if m = "IRQ_EN" then some .irqEn
  else if m = "GREET" then some (.greet false 0)
  else if m = "DECODE" then some .decode
  else if m = "BTN_RESET" then some .btnReset
  else if m = "REPORT" then some (.report false 0)
  else if m = "SHIFT" then some .shift
  else if m = "CMP_MATCH" then some .cmpMatch
  else if m = "TICK" then some .tick
  else if m = "NOW_MILLIS" then some .nowMillis
  else none

/-- An operation with one operand (R85). -/
def readUnary (m x : String) : Option Instr :=
  if m = "ACQUIRE" then (if x = "unavail" then some (.acquire true) else none)
  else if m = "GREET" then (readFail x).map (.greet true)
  else if m = "REPORT" then (readFail x).map (.report true)
  else none

/-- SAMPLE and its three operands (R85). -/
def readSample (m x y z : String) : Option Instr :=
  if m = "SAMPLE" then
    match readBit x, readBit y, readBit z with
    | some btn, some a, some b => some (.sample btn a b)
    | _, _, _ => none
  else none

/-- The event a line of a trace names: mnemonic first, operands after it separated by spaces, `;` starting a comment
(R85). -/
def parseLine (line : String) : Option Instr :=
  match splitTokens (beforeComment line.toList) [] with
  | [m] => readPlain m
  | [m, x] => readUnary m x
  | [m, x, y, z] => readSample m x y z
  | _ => none

end Sys2Proof.Machine
end

