-- ==== Sys2Proof/Safety.lean ====
section
/-!
DEFINITION. Safety.lean: the vocabulary of claims: the enabling table (30_encoding.md R87), the invariant of the block,
ownership (10_state.md R33), schedules as MAIN sees them (40_clock.md R109), infinite runs and fairness (40_clock.md R103).
-/

namespace Sys2Proof.Safety

open Sys2Proof.Machine

/-- The table of R87: which event is enabled in which state. An outcome of DECODE is enabled where DECODE is and the
vector is the outcome's row (R76). -/
def enabled : Instr → State → Bool
  | .reset, _ => true
  | .acquire _, s => decide (s.seq = .acquire)
  | .iocfg, s => decide (s.seq = .iocfg)
  | .clockInit, s => decide (s.seq = .clockInit)
  | .irqEn, s => decide (s.seq = .irqEn)
  | .greet fail k, s => decide (s.seq = .greet) && (!fail || decide (k < s.cfg.greeting.length))
  | .sample _ _ _, s => decide (s.seq = .sample)
  | .decode, s => decide (s.seq = .decode)
  | .btnReset, s => decide (s.seq = .btnReset)
  | .report fail k, s =>
    decide (s.seq = .report) &&
      (!fail || (decide (s.millis % s.cfg.reportInterval = 0) && decide (k < (statusLine s.cfg s.pos).length)))
  | .shift, s => decide (s.seq = .shift)
  | .cmpMatch, s => s.tmrRun && decide (s.seq ≠ .halt)
  | .tick, s => s.irqPend && s.gie && decide (s.seq ≠ .halt)
  | .nowMillis, s => decide (s.seq ≠ .halt)
  | .qdec, s => decide (s.seq = .decode) && decide (qVector s = 0x21)
  | .qinc, s => decide (s.seq = .decode) && decide (qVector s = 0x12)
  | .qnop q, s => decide (s.seq = .decode) && decide (qVector s = q) && decide (q ≠ 0x21) && decide (q ≠ 0x12)

/-- The event that SEQ names, its draws those of an undisturbed run; HALT names none (R27). -/
def namedEvent (btn a b : Bool) : Seq → Option Instr
  | .acquire => some (.acquire false)
  | .iocfg => some .iocfg
  | .clockInit => some .clockInit
  | .irqEn => some .irqEn
  | .greet => some (.greet false 0)
  | .sample => some (.sample btn a b)
  | .decode => some .decode
  | .btnReset => some .btnReset
  | .report => some (.report false 0)
  | .shift => some .shift
  | .halt => none

/-- The successor table of R27, for an event that raises no fault. -/
def successor : Seq → Seq
  | .acquire => .iocfg
  | .iocfg => .clockInit
  | .clockInit => .irqEn
  | .irqEn => .greet
  | .greet => .sample
  | .sample => .decode
  | .decode => .btnReset
  | .btnReset => .report
  | .report => .shift
  | .shift => .sample
  | .halt => .halt

/-- A step of the sequence before CLOCK_INIT has run. -/
def beforeClockInit (q : Seq) : Bool := q = .acquire || q = .iocfg || q = .clockInit

/-- A step of the boot part. -/
def inBoot (q : Seq) : Bool := beforeClockInit q || q = .irqEn || q = .greet

/-- A step after SAMPLE of the same iteration. -/
def afterSample (q : Seq) : Bool := q = .decode || q = .btnReset || q = .report || q = .shift

/-- A step after IRQ_EN, outside HALT. -/
def afterIrqEn (q : Seq) : Bool := q = .greet || q = .sample || afterSample q

/-- The invariant of the block: what holds of every state that a run from RESET reaches under accepted parameters. -/
structure BlockInv (s : State) : Prop where
  /-- The parameters are a configuration of this hardware (R6, R7). -/
  config : configAccepted s.cfg = true
  /-- MILLIS is a u_W_MS (R21). -/
  millisRange : s.millis < 2 ^ s.cfg.wMs
  /-- MILLIS lies in the subgroup generated by gcd(INC, 2^W_MS) (R108). -/
  millisLattice : Nat.gcd s.cfg.inc (2 ^ s.cfg.wMs) ∣ s.millis
  /-- POS is an s_W_POS (R23). -/
  posRange : fitsS s.cfg.wPos s.pos = true
  /-- T_LATCH, where written, is a u_W_MS (R25). -/
  latchRange : ∀ t, s.tLatch = some t → t < 2 ^ s.cfg.wMs
  /-- "FAULT != 0 if and only if SEQ = HALT" (R31). -/
  faultIffHalt : s.fault ≠ .none ↔ s.seq = .halt
  /-- No rule ever reads an unwritten latch (R24). -/
  latchesWritten : afterSample s.seq = true → s.sBtn.isSome = true ∧ s.sA.isSome = true ∧ s.sB.isSome = true
  /-- The two pairs of the history differ, or no shift has happened yet (R22). -/
  historyDistinct : (s.prevA, s.prevB) ≠ (s.curA, s.curB) ∨
    (s.curA = false ∧ s.curB = false ∧ s.prevA = false ∧ s.prevB = false)
  /-- Before CLOCK_INIT: no timer, no interrupts, MILLIS 0 (R101, R181). -/
  bootQuiet : beforeClockInit s.seq = true →
    s.tmrRun = false ∧ s.gie = false ∧ s.irqPend = false ∧ s.millis = 0
  /-- Between CLOCK_INIT and IRQ_EN: the timer runs, interrupts are masked, MILLIS 0 (R101, R102). -/
  bootMasked : s.seq = .irqEn → s.tmrRun = true ∧ s.gie = false ∧ s.millis = 0
  /-- After IRQ_EN: the timer runs and no event leaves GIE false (R28, R30). -/
  loopEnabled : afterIrqEn s.seq = true → s.tmrRun = true ∧ s.gie = true
  /-- No edge is pending and no interrupt is enabled without a timer (R28, R29). -/
  armed : (s.irqPend = true ∨ s.gie = true) → s.tmrRun = true
  /-- Until GREET nothing is written, counted or shifted (R27, R35). -/
  bootClean : inBoot s.seq = true →
    s.tx = [] ∧ s.pos = 0 ∧ s.curA = false ∧ s.curB = false ∧ s.prevA = false ∧ s.prevB = false

/-- The elements private to MAIN are the same in both states (R33, R64): all but MILLIS, GIE, IRQ_PEND and TMR_RUN. -/
def SamePrivate (s t : State) : Prop :=
  t.curA = s.curA ∧ t.curB = s.curB ∧ t.prevA = s.prevA ∧ t.prevB = s.prevB ∧ t.pos = s.pos ∧
  t.sBtn = s.sBtn ∧ t.sA = s.sA ∧ t.sB = s.sB ∧ t.tLatch = s.tLatch ∧ t.seq = s.seq ∧ t.fault = s.fault ∧ t.tx = s.tx

/-- The interrupt plumbing and the counter are the same in both states (R33). -/
def SameClock (s t : State) : Prop :=
  t.millis = s.millis ∧ t.gie = s.gie ∧ t.irqPend = s.irqPend ∧ t.tmrRun = s.tmrRun

/-- The model's own fields are the same in both states. -/
def SameModel (s t : State) : Prop :=
  t.cfg = s.cfg ∧ t.trace = s.trace ∧ t.eventNo = s.eventNo

/-- The sample latches hold the values of an iteration's SAMPLE. -/
def Sampled (s : State) (btn a b : Bool) : Prop :=
  s.sBtn = some btn ∧ s.sA = some a ∧ s.sB = some b

/-- How many times an event occurs in a trace. -/
def occurrences (i : Instr) (events : List Instr) : Nat := events.count i

/-- The event is a GREET, whatever its draws. -/
def isGreet : Instr → Bool
  | .greet _ _ => true
  | _ => false

/-- The event reads or restarts the counter: REPORT and CLOCK_INIT, the MAIN events with which a TICK does not commute
(R109). -/
def touchesCounter : Instr → Bool
  | .report _ _ => true
  | .clockInit => true
  | _ => false

/-- A schedule as MAIN can tell it from another: its MAIN events in order, those that touch the counter with the number
of TICKs before them, `ticks` of them already past (R109). -/
def mainView : List Instr → Nat → List (Instr × Nat)
  | [], _ => []
  | i :: rest, ticks =>
    if i = .tick then mainView rest (ticks + 1)
    else if agentOf i = .main then (i, if touchesCounter i then ticks else 0) :: mainView rest ticks
    else mainView rest ticks

/-- The position an iteration's DECODE leaves, on the pairs alone (R130): -1, +1 or 0 modulo 2^W_POS. -/
def decodedPos (w : Nat) (pos : Int) (fresh cur prev : Bool × Bool) : Int :=
  if (fresh, cur, prev) = ((true, false), (false, false), (false, true)) then wrapS w (pos - 1)
  else if (fresh, cur, prev) = ((false, true), (false, false), (true, false)) then wrapS w (pos + 1)
  else pos

/-- One iteration as a single atomic step with inputs (btn, a, b), reading MILLIS as it stands, its write not failing
(R130). -/
def iterationStep (btn a b : Bool) (s : State) : State :=
  let pos2 := if btn then 0 else decodedPos s.cfg.wPos s.pos (a, b) (s.curA, s.curB) (s.prevA, s.prevB)
  let line := if s.millis % s.cfg.reportInterval = 0 then statusLine s.cfg pos2 else []
  let moved := decide ((a, b) ≠ (s.curA, s.curB))
  { s with
    pos := pos2
    tx := s.tx ++ line
    tLatch := some s.millis
    sBtn := some btn
    sA := some a
    sB := some b
    curA := if moved then a else s.curA
    curB := if moved then b else s.curB
    prevA := if moved then s.curA else s.prevA
    prevB := if moved then s.curB else s.prevB }

/-- Iterations on a list of samples (button, phase A, phase B), one after another. -/
def iterations : List (Bool × Bool × Bool) → List Instr
  | [] => []
  | (btn, a, b) :: rest => iterEvents btn a b ++ iterations rest

/-- A phase pair held for `n + 1` iterations with the button line low. -/
def held (n : Nat) (a b : Bool) : List (Bool × Bool × Bool) := List.replicate (n + 1) (false, a, b)

/-- An infinite run: event `n` is performed in state `n` (R60). -/
def InfiniteRun (events : Nat → Instr) (states : Nat → State) : Prop :=
  ∀ n, exec (events n) (states n) = .next (states (n + 1))

/-- Fairness of the timer: "once TMR_RUN is true, CMP_MATCH occurs infinitely often" (R103 a). -/
def TimerFair (events : Nat → Instr) (states : Nat → State) : Prop :=
  (∃ n, (states n).tmrRun = true) → ∀ n, ∃ m, n ≤ m ∧ events m = .cmpMatch

/-- Fairness of the handler: "a TICK that stays enabled is eventually taken" (R103 b). -/
def HandlerFair (events : Nat → Instr) (states : Nat → State) : Prop :=
  ∀ n, (∀ m, n ≤ m → enabled .tick (states m) = true) → ∃ m, n ≤ m ∧ events m = .tick

/-- MAIN is scheduled again and again: with R136 (no loop event can stall), what R103's "MAIN is never blocked" needs of
the schedule (log entry 17). -/
def MainScheduled (events : Nat → Instr) : Prop :=
  ∀ n, ∃ m, n ≤ m ∧ agentOf (events m) = .main

end Sys2Proof.Safety
end

