-- ==== Sys2Proof/Certificates/Slice0/Obligations.lean ====
section
/-!
DEFINITION. Certificates/Slice0/Obligations.lean: the statements for the provers. Each docstring says which rule or
section of spec/ the statement formalises. `{ s with … }` is the whole frame: every element not named keeps its value,
and the block has no memory beside them (20_memory.md R50). Where an event halts the block, MILLIS of the HALT state is
left open (`∃ m, … millis := m`), because R155 says a claim must not read it; CLOCK_INIT is the exception, of which
R101 says "nothing else changes". The event words in the statements are the spec's decision D11, the fault codes D14,
the wrapping of POS D6, the failing write D15: the spec's own choices, not the model's.
-/

open Sys2Proof Sys2Proof.Machine Sys2Proof.Safety

/-! Encodings (30_encoding.md) -/

/-- Every well-formed event or outcome decodes from its own encoding, with every operand (R71 to R77). -/
def Obligations.DecodeOfEncodeIsIdentity : Prop :=
  ∀ i : Instr, i.wellFormed = true → decode (encode i) = .ok i

/-- What the decoder accepts is well formed and is the encoding it was read from: each word has one meaning. -/
def Obligations.EncodeOfDecodeIsIdentity : Prop :=
  ∀ (e : Encoding) (i : Instr), decode e = .ok i → i.wellFormed = true ∧ encode i = e

/-- An accepted word matches exactly one row of the opcode table, that of its event; a rejected word matches none,
but for a GREET or REPORT word rejected for its count. -/
def Obligations.AcceptedWordsMatchOneTableRow : Prop :=
  (∀ w i, decodeWord w = .ok i →
    ∃ r, eventRows.filter (fun r => r.matches w) = [r] ∧ r.mnemonic = mnemonicOf i) ∧
  (∀ w why, decodeWord w = .error why →
    (eventRows.filter (fun r => r.matches w) = [] ∧ why ≠ .countWithoutFail) ∨
    (why = .countWithoutFail ∧ (opOf w = 0x5 ∨ opOf w = 0x9)))

/-- R83: the reserved op codes, the stray arg bits of each op and a count without failure are refused by name, by the
decoder and by the step; every value of the formats S and Q is legal. -/
def Obligations.MalformedWordsAreRefused : Prop :=
  (∀ w, opOf w = 0xE ∨ opOf w = 0xF → decodeWord w = .error .reservedOp) ∧
  (∀ w, opOf w ∈ [0x0, 0x2, 0x3, 0x4, 0x7, 0x8, 0xA, 0xB, 0xC, 0xD] → argOf w ≠ 0 → decodeWord w = .error .strayArg) ∧
  (∀ w, opOf w = 0x1 → (argOf w).extractLsb' 1 11 ≠ 0 → decodeWord w = .error .strayArg) ∧
  (∀ w, opOf w = 0x6 → (argOf w).extractLsb' 3 9 ≠ 0 → decodeWord w = .error .strayArg) ∧
  (∀ w, opOf w = 0x5 ∨ opOf w = 0x9 → (argOf w).getLsbD 11 = false → (argOf w).extractLsb' 0 11 ≠ 0 →
    decodeWord w = .error .countWithoutFail) ∧
  (∀ s w rest why, configAccepted s.cfg = true → s.trace = .word w :: rest → decodeWord w = .error why →
    step s = .refused (.malformedWord w why)) ∧
  (∀ btn a b : Bool, decodeWord (eventWord 0x6 (sampleArg btn a b)) = .ok (.sample btn a b)) ∧
  (∀ v : QVec, ∃ i, decode (.q v) = .ok i)

/-- R85: every line of the table of trace lines names its event, which has the word beside it; a comment changes
nothing. -/
def Obligations.TraceLinesNameTheirWords : Prop :=
  (∀ i l, i.wellFormed = true → traceLine i = some l → parseLine l = some i) ∧
  (∀ l c : String, parseLine (l ++ ";" ++ c) = parseLine l) ∧
  (traceLine .reset = some "RESET" ∧ encode .reset = .evt 0x0000) ∧
  (traceLine (.acquire false) = some "ACQUIRE" ∧ encode (.acquire false) = .evt 0x1000) ∧
  (traceLine (.acquire true) = some "ACQUIRE unavail" ∧ encode (.acquire true) = .evt 0x1001) ∧
  (traceLine .iocfg = some "IOCFG" ∧ encode .iocfg = .evt 0x2000) ∧
  (traceLine .clockInit = some "CLOCK_INIT" ∧ encode .clockInit = .evt 0x3000) ∧
  (traceLine .irqEn = some "IRQ_EN" ∧ encode .irqEn = .evt 0x4000) ∧
  (traceLine (.greet false 0) = some "GREET" ∧ encode (.greet false 0) = .evt 0x5000) ∧
  (∀ k, traceLine (.greet true k) = some ("GREET fail@" ++ toString k)) ∧
  (∀ k, k < 2 ^ 11 → encode (.greet true k) = .evt (BitVec.ofNat 16 (0x5800 + k))) ∧
  (∀ btn a b : Bool,
    traceLine (.sample btn a b) = some ("SAMPLE " ++ bitText btn ++ " " ++ bitText a ++ " " ++ bitText b) ∧
    encode (.sample btn a b) = .evt (BitVec.ofNat 16 (0x6000 + 4 * btn.toNat + 2 * a.toNat + b.toNat))) ∧
  (traceLine .decode = some "DECODE" ∧ encode .decode = .evt 0x7000) ∧
  (traceLine .btnReset = some "BTN_RESET" ∧ encode .btnReset = .evt 0x8000) ∧
  (traceLine (.report false 0) = some "REPORT" ∧ encode (.report false 0) = .evt 0x9000) ∧
  (∀ k, traceLine (.report true k) = some ("REPORT fail@" ++ toString k)) ∧
  (∀ k, k < 2 ^ 11 → encode (.report true k) = .evt (BitVec.ofNat 16 (0x9800 + k))) ∧
  (traceLine .shift = some "SHIFT" ∧ encode .shift = .evt 0xA000) ∧
  (traceLine .cmpMatch = some "CMP_MATCH" ∧ encode .cmpMatch = .evt 0xB000) ∧
  (traceLine .tick = some "TICK" ∧ encode .tick = .evt 0xC000) ∧
  (traceLine .nowMillis = some "NOW_MILLIS" ∧ encode .nowMillis = .evt 0xD000)

/-- Words written out from V-ENC-1, and vectors from V-ENC-3 whose outcomes R76 gives, decode to what they stand for; the
word 0x6008 of V-ENC-2 names no event. The vectors are given as one byte each: that an 8-bit number is a vector Q, where
R75 gives it 6 bits, is the model's choice (log entry 28). -/
def Obligations.SpecWordsDecode : Prop :=
  decodeTableWord 16 0x1001 = some (.acquire true) ∧ decodeTableWord 16 0x5800 = some (.greet true 0) ∧
  decodeTableWord 16 0x6005 = some (.sample true false true) ∧ decodeTableWord 16 0x981E = some (.report true 30) ∧
  decodeTableWord 16 0xC000 = some .tick ∧ decodeTableWord 8 0x21 = some .qdec ∧ decodeTableWord 8 0x12 = some .qinc ∧
  decodeTableWord 8 0x38 = some (.qnop 0x38) ∧ decodeTableWord 16 0x6008 = none

/-! The step and the enabling of events -/

/-- Under accepted parameters, when the next word of the trace decodes to an event, the step is exec of that event on
the state past the word; so it is for an entry that gives a failing write with a count no word can carry (log entries 1
and 26). -/
def Obligations.StepRunsTheDecodedEvent : Prop :=
  (∀ s w rest i, configAccepted s.cfg = true → s.trace = .word w :: rest → decode (.evt w) = .ok i →
    i.wellFormed = true ∧ step s = exec i { s with trace := rest, eventNo := s.eventNo + 1 }) ∧
  (∀ s k rest, configAccepted s.cfg = true → s.trace = .greetFail k :: rest →
    step s = exec (.greet true k) { s with trace := rest, eventNo := s.eventNo + 1 }) ∧
  (∀ s k rest, configAccepted s.cfg = true → s.trace = .reportFail k :: rest →
    step s = exec (.report true k) { s with trace := rest, eventNo := s.eventNo + 1 })

/-- R7 and R6: parameters that break a constraint are refused whatever the trace, and no others are; an accepted
configuration with no event left stops by name (the model's choice, log entry 1). -/
def Obligations.RejectedConfigurationsNeverStep : Prop :=
  ∀ s : State,
    (step s = .refused .configRefused ↔
      ¬ (1 ≤ s.cfg.wMs ∧ 1 ≤ s.cfg.inc ∧ s.cfg.inc < 2 ^ s.cfg.wMs ∧
        s.cfg.inc * s.cfg.clockKhz = s.cfg.prescaler * s.cfg.compareValue ∧ 1 ≤ s.cfg.compareValue ∧
        1 ≤ s.cfg.clockKhz ∧ s.cfg.supportedPrescalers ≠ [] ∧ (∀ p ∈ s.cfg.supportedPrescalers, 1 ≤ p) ∧
        2 ≤ s.cfg.wPos ∧ 1 ≤ s.cfg.reportInterval)) ∧
    (configAccepted s.cfg = true → s.trace = [] → step s = .refused .traceEnded)

/-- The table of R87, for every event, and for the outcomes of DECODE with the condition of log entry 11: enabled, it answers a next state (under the default POS_OVERFLOW,
wrap); not enabled, it is refused by name. A trace (log entry 1) is well formed exactly when the machine runs through
all of it. -/
def Obligations.EventsRunExactlyWhenEnabled : Prop :=
  (∀ (i : Instr) (s : State),
    (enabled i s = true → s.cfg.posOverflow = .wrap → ∃ t, exec i s = .next t) ∧
    (enabled i s = false → exec i s = .refused (.notEnabled (mnemonicOf i)))) ∧
  (∀ s : State, configAccepted s.cfg = true → s.cfg.posOverflow = .wrap →
    (wellFormedTrace s.trace s = true ↔
      ∃ t, Host.Core.run Sys2Proof.core s.trace.length s = .next t ∧ t.trace = []) ∧
    (wellFormedTrace s.trace s = false ↔ ∃ r, Host.Core.run Sys2Proof.core s.trace.length s = .refused r))

/-- No event writes the parameters or the rest of the trace, and a step moves past exactly one entry (R36, D31; the
trace and the count are the model's own fields, log entries 1 and 7). -/
def Obligations.ParametersAreNeverWritten : Prop :=
  (∀ i s t, exec i s = .next t → SameModel s t) ∧
  (∀ s t, step s = .next t → t.cfg = s.cfg ∧ s.trace = s.trace.take 1 ++ t.trace ∧ t.eventNo = s.eventNo + 1)

/-! Reset and boot (42_boot.md, 10_state.md R35) -/

/-- R145 and R35: from every state, HALT included, RESET gives every element its reset value. -/
def Obligations.ResetGivesEveryElementItsValue : Prop :=
  encode .reset = .evt 0x0000 ∧
  ∀ s : State, ∃ t, exec .reset s = .next t ∧
    t.millis = 0 ∧ t.curA = false ∧ t.curB = false ∧ t.prevA = false ∧ t.prevB = false ∧ t.pos = 0 ∧
    t.sBtn = none ∧ t.sA = none ∧ t.sB = none ∧ t.tLatch = none ∧ t.seq = .acquire ∧
    t.gie = false ∧ t.irqPend = false ∧ t.tmrRun = false ∧ t.fault = .none ∧ t.tx = []

/-- R146: ACQUIRE. -/
def Obligations.AcquireTakesThePeripheralsOrHalts : Prop :=
  encode (.acquire false) = .evt 0x1000 ∧ encode (.acquire true) = .evt 0x1001 ∧
  ∀ s : State,
    (s.seq = .acquire → exec (.acquire false) s = .next { s with seq := .iocfg }) ∧
    (s.seq = .acquire → ∃ m, exec (.acquire true) s =
      .next { s with fault := .peripheralUnavailable, seq := .halt, millis := m }) ∧
    (s.seq ≠ .acquire → ∀ u, exec (.acquire u) s = .refused (.notEnabled "ACQUIRE")) ∧
    (∀ t i, exec (.acquire true) s = .next t → i ≠ .reset → enabled i t = false)

/-- R147: IOCFG changes no element but SEQ. -/
def Obligations.IocfgOnlyAdvances : Prop :=
  encode .iocfg = .evt 0x2000 ∧
  ∀ s : State,
    (s.seq = .iocfg → exec .iocfg s = .next { s with seq := .clockInit }) ∧
    (s.seq ≠ .iocfg → exec .iocfg s = .refused (.notEnabled "IOCFG"))

/-- R101: CLOCK_INIT, with a supported and with an unsupported prescaler; by the boot order GIE, TMR_RUN and IRQ_PEND are
false where it is enabled. -/
def Obligations.ClockInitStartsTheTimerOrHalts : Prop :=
  encode .clockInit = .evt 0x3000 ∧
  ∀ s : State,
    (s.seq = .clockInit → s.cfg.prescaler ∈ s.cfg.supportedPrescalers →
      exec .clockInit s = .next { s with millis := 0, tmrRun := true, seq := .irqEn }) ∧
    (s.seq = .clockInit → s.cfg.prescaler ∉ s.cfg.supportedPrescalers →
      exec .clockInit s = .next { s with fault := .configError, seq := .halt }) ∧
    (s.seq ≠ .clockInit → exec .clockInit s = .refused (.notEnabled "CLOCK_INIT")) ∧
    (BlockInv s → s.seq = .clockInit → s.gie = false ∧ s.tmrRun = false ∧ s.irqPend = false ∧ s.millis = 0)

/-- R102: IRQ_EN; it is the only event that leaves GIE true where it was false, and without it no tick happens and
MILLIS stays 0. -/
def Obligations.IrqEnIsTheOnlyEnable : Prop :=
  encode .irqEn = .evt 0x4000 ∧
  (∀ s : State, s.seq = .irqEn → exec .irqEn s = .next { s with gie := true, seq := .greet } ∧
    (s.irqPend = true → enabled .tick { s with gie := true, seq := .greet } = true)) ∧
  (∀ s : State, s.seq ≠ .irqEn → exec .irqEn s = .refused (.notEnabled "IRQ_EN")) ∧
  (∀ i s t, exec i s = .next t → s.gie = false → t.gie = true → i = .irqEn) ∧
  (∀ events s t, runEvents (.reset :: events) s = .next t → .irqEn ∉ events → .tick ∉ events ∧ t.millis = 0)

/-- R148: GREET writes GREETING once, or fails after k of its bytes; but for RESET, SEQ reaches GREET from IRQ_EN only, no
event leads from the loop or HALT back into the boot, and a run performs at most one GREET. -/
def Obligations.GreetWritesTheGreetingOnce : Prop :=
  (∀ k, k < 2 ^ 11 → encode (.greet true k) = .evt (BitVec.ofNat 16 (0x5800 + k))) ∧ encode (.greet false 0) = .evt 0x5000 ∧
  (∀ (s : State) (k : Nat),
    (s.seq = .greet → exec (.greet false k) s = .next { s with tx := s.tx ++ s.cfg.greeting, seq := .sample }) ∧
    (s.seq = .greet → k < s.cfg.greeting.length → ∃ m, exec (.greet true k) s =
      .next { s with tx := s.tx ++ s.cfg.greeting.take k, fault := .outputWriteFailure, seq := .halt,
                     millis := m }) ∧
    (s.seq = .greet → s.cfg.greeting.length ≤ k →
      exec (.greet true k) s = .refused (.notEnabled "GREET")) ∧
    (s.seq ≠ .greet → ∀ fail, exec (.greet fail k) s = .refused (.notEnabled "GREET"))) ∧
  (∀ i s t, exec i s = .next t → t.seq = .greet → s.seq = .irqEn ∨ (s.seq = .greet ∧ agentOf i ≠ .main)) ∧
  (∀ i s t, exec i s = .next t → i ≠ .reset → inBoot t.seq = true → inBoot s.seq = true) ∧
  (∀ events s t, runEvents events s = .next t → .reset ∉ events →
    events.countP isGreet ≤ 1 ∧ (inBoot s.seq = false → events.countP isGreet = 0))

/-- The boot sequence of R149: a fault-free BOOT with no CMP_MATCH in it, from any state. -/
def Obligations.FaultFreeBootReachesTheLoop : Prop :=
  ∀ s : State, s.cfg.prescaler ∈ s.cfg.supportedPrescalers →
    ∃ t, runEvents (.reset :: bootEvents) s = .next t ∧
      t.millis = 0 ∧ t.pos = 0 ∧ t.curA = false ∧ t.curB = false ∧ t.prevA = false ∧ t.prevB = false ∧
      t.gie = true ∧ t.tmrRun = true ∧ t.irqPend = false ∧ t.fault = .none ∧ t.tx = s.cfg.greeting ∧ t.seq = .sample

/-! The Millisecond Clock (40_clock.md, 20_memory.md) -/

/-- R104: CMP_MATCH latches the edge; with IRQ_PEND already true it changes nothing. -/
def Obligations.CmpMatchLatchesOneEdge : Prop :=
  encode .cmpMatch = .evt 0xB000 ∧
  ∀ s : State,
    (s.tmrRun = true → s.seq ≠ .halt → exec .cmpMatch s = .next { s with irqPend := true }) ∧
    (s.tmrRun = true → s.seq ≠ .halt → s.irqPend = true → exec .cmpMatch s = .next s) ∧
    (s.tmrRun = false ∨ s.seq = .halt → exec .cmpMatch s = .refused (.notEnabled "CMP_MATCH"))

/-- R105: TICK adds INC modulo 2^W_MS and clears IRQ_PEND, GIE the same after as before; at 2^W_MS - d with d at most
INC it gives INC - d. -/
def Obligations.TickAddsTheIncrement : Prop :=
  encode .tick = .evt 0xC000 ∧
  ∀ s : State,
    (s.irqPend = true → s.gie = true → s.seq ≠ .halt →
      exec .tick s = .next { s with millis := (s.millis + s.cfg.inc) % 2 ^ s.cfg.wMs, irqPend := false }) ∧
    (s.irqPend = false ∨ s.gie = false ∨ s.seq = .halt → exec .tick s = .refused (.notEnabled "TICK")) ∧
    (∀ d t, s.cfg.inc < 2 ^ s.cfg.wMs → s.millis = 2 ^ s.cfg.wMs - d → 1 ≤ d → d ≤ s.cfg.inc →
      exec .tick s = .next t → t.millis = s.cfg.inc - d)

/-- R106: NOW_MILLIS returns MILLIS whole, in T_LATCH, to its observer, and changes nothing else; two reads with no TICK between them
return the same (nor a restart of the counter, by RESET or CLOCK_INIT), and before the first TICK it returns 0. -/
def Obligations.NowMillisReturnsTheCounter : Prop :=
  encode .nowMillis = .evt 0xD000 ∧
  ∀ s : State,
    (s.seq ≠ .halt → exec .nowMillis s = .next { s with tLatch := some s.millis }) ∧
    (s.seq ≠ .halt → observations [.nowMillis] s = [⟨s.tx, false, s.fault, some s.millis⟩]) ∧
    (s.seq = .halt → exec .nowMillis s = .refused (.notEnabled "NOW_MILLIS")) ∧
    (∀ events t, .tick ∉ events → .clockInit ∉ events → .reset ∉ events →
      runEvents (.nowMillis :: events ++ [.nowMillis]) s = .next t → t.tLatch = some s.millis) ∧
    (∀ events t, .tick ∉ events → runEvents (.reset :: events ++ [.nowMillis]) s = .next t → t.tLatch = some 0)

/-- The critical section (R58): the read returns the whole of MILLIS and leaves the state, GIE included, as it was;
inside it no TICK is enabled, and an edge is only latched. -/
def Obligations.CriticalSectionMasksTheHandler : Prop :=
  ∀ s : State, csRead s = (s.millis, s) ∧ enabled .tick { s with gie := false } = false ∧
    (s.tmrRun = true → s.seq ≠ .halt →
      exec .cmpMatch { s with gie := false } = .next { s with gie := false, irqPend := true })

/-- Visibility (R61): a read after a TICK includes its increment, a read before it does not. -/
def Obligations.ReadsSeeEarlierTicksOnly : Prop :=
  ∀ s : State, enabled .tick s = true →
    (∃ t, runEvents [.tick, .nowMillis] s = .next t ∧ t.tLatch = some ((s.millis + s.cfg.inc) % 2 ^ s.cfg.wMs)) ∧
    (∃ t, runEvents [.nowMillis, .tick] s = .next t ∧ t.tLatch = some s.millis)

/-- The count law of R107: after a successful CLOCK_INIT and with no later RESET, MILLIS is the number of TICKs times
INC modulo 2^W_MS. -/
def Obligations.CounterCountsTicks : Prop :=
  ∀ s s0 events t, exec .clockInit s = .next s0 → s0.seq ≠ .halt → .reset ∉ events → runEvents events s0 = .next t →
    t.millis = (occurrences .tick events * s.cfg.inc) % 2 ^ s.cfg.wMs

/-- The ring law (R108): n interrupts advance the counter by n INC modulo 2^W_MS, and a full turn, where INC divides
2^W_MS, returns it exactly. -/
def Obligations.CounterIsARing : Prop :=
  ∀ (n : Nat) (s : State), s.tmrRun = true → s.gie = true → s.seq ≠ .halt → s.millis < 2 ^ s.cfg.wMs →
    ∃ t, runEvents (irqTimes n) s = .next t ∧ t.millis = (s.millis + n * s.cfg.inc) % 2 ^ s.cfg.wMs ∧
      SamePrivate s t ∧ (n * s.cfg.inc = 2 ^ s.cfg.wMs → t.millis = s.millis)

/-- Absorbed edges (10_state.md R29): however many edges come before it, one TICK follows them, and then none is
enabled. -/
def Obligations.EdgesBeforeATickAreAbsorbed : Prop :=
  ∀ (n : Nat) (s : State), s.tmrRun = true → s.gie = true → s.seq ≠ .halt →
    runEvents (List.replicate (n + 1) .cmpMatch ++ [.tick]) s =
      .next { s with millis := (s.millis + s.cfg.inc) % 2 ^ s.cfg.wMs, irqPend := false } ∧
    runEvents (List.replicate (n + 1) .cmpMatch ++ [.tick, .tick]) s = .refused (.notEnabled "TICK")

/-- R158: CMP_MATCH sets IRQ_PEND, TICK clears it, and nothing else does either but RESET, which clears it. -/
def Obligations.PendingIsSetByEdgesClearedByTicks : Prop :=
  ∀ i s t, exec i s = .next t →
    (i = .cmpMatch → t.irqPend = true) ∧ (i = .tick → t.irqPend = false) ∧ (i = .reset → t.irqPend = false) ∧
    (i ≠ .cmpMatch → i ≠ .tick → i ≠ .reset → t.irqPend = s.irqPend)

/-- GIE and TMR_RUN (10_state.md R28, R30): set by IRQ_EN and by CLOCK_INIT, cleared by RESET alone. -/
def Obligations.EnablesAreClearedByResetOnly : Prop :=
  ∀ i s t, exec i s = .next t →
    (s.gie = true → t.gie = false → i = .reset) ∧
    (s.tmrRun = true → t.tmrRun = false → i = .reset) ∧
    (s.tmrRun = false → t.tmrRun = true → i = .clockInit)

/-- Commutation (R109): TICK and CMP_MATCH swap with every adjacent MAIN event that does not touch the clock. -/
def Obligations.InterruptCommutesWithMain : Prop :=
  ∀ e i s t, e = .tick ∨ e = .cmpMatch →
    ((∃ u, i = .acquire u) ∨ i = .iocfg ∨ (∃ f k, i = .greet f k) ∨ (∃ btn a b, i = .sample btn a b) ∨ i = .decode ∨
      i = .btnReset ∨ i = .shift) →
    t.seq ≠ .halt → (runEvents [e, i] s = .next t ↔ runEvents [i, e] s = .next t)

/-- No torn read (R63): with the masking, a read in parts, interrupts injected anywhere between them, returns the
counter as it was, and an injected edge is only latched. -/
def Obligations.MaskedReadIsNeverTorn : Prop :=
  ∀ (d : Nat) (inj : List Bool) (s : State), s.millis < 2 ^ (d * inj.length) →
    maskedRead d inj s =
      (s.millis, { s with irqPend := s.irqPend || (inj.any id && s.tmrRun && decide (s.seq ≠ .halt)) })

/-- Fairness (R103): in an infinite run with no RESET and no HALT, a fair timer, a fair handler and interrupts once
enabled, TICK occurs infinitely often. -/
def Obligations.FairRunsTickForever : Prop :=
  ∀ events states, InfiniteRun events states → (∀ n, (states n).seq ≠ .halt) → (∀ n, events n ≠ .reset) →
    TimerFair events states → HandlerFair events states →
    (∃ n, (states n).gie = true ∧ (states n).tmrRun = true) →
    ∀ n, ∃ m, n ≤ m ∧ events m = .tick

/-- Progress (R136, R103): in an infinite run with no RESET and no HALT in which MAIN is scheduled again and again, the
loop completes iterations for ever. -/
def Obligations.ScheduledMainIteratesForever : Prop :=
  ∀ events states, InfiniteRun events states → (∀ n, (states n).seq ≠ .halt) → (∀ n, events n ≠ .reset) →
    MainScheduled events → ∀ n, ∃ m, n ≤ m ∧ events m = .shift

/-! The Encoder/Button Loop (41_decoder_loop.md) -/

/-- R120: SAMPLE latches the three draws, all eight combinations legal. -/
def Obligations.SampleLatchesTheDraws : Prop :=
  ∀ (btn a b : Bool) (s : State),
    encode (.sample btn a b) = .evt (BitVec.ofNat 16 (0x6000 + 4 * btn.toNat + 2 * a.toNat + b.toNat)) ∧
    (s.seq = .sample → exec (.sample btn a b) s =
      .next { s with sBtn := some btn, sA := some a, sB := some b, seq := .decode }) ∧
    (s.seq ≠ .sample → exec (.sample btn a b) s = .refused (.notEnabled "SAMPLE"))

/-- R121 to R124: DECODE counts -1 and +1 on the two patterns and nothing on any other, wrapping modulo 2^W_POS (the
default POS_OVERFLOW). -/
def Obligations.DecodeCountsOnTheTwoPatterns : Prop :=
  encode .decode = .evt 0x7000 ∧
  (∀ s : State, s.seq = .decode → s.cfg.posOverflow = .wrap →
    exec .decode s =
      (if (s.latch .phA, s.latch .phB, s.curA, s.curB, s.prevA, s.prevB) = (true, false, false, false, false, true) then
        .next { s with pos := wrapS s.cfg.wPos (s.pos - 1), seq := .btnReset }
      else if (s.latch .phA, s.latch .phB, s.curA, s.curB, s.prevA, s.prevB) =
          (false, true, false, false, true, false) then
        .next { s with pos := wrapS s.cfg.wPos (s.pos + 1), seq := .btnReset }
      else .next { s with seq := .btnReset })) ∧
  (∀ s : State, s.seq ≠ .decode → exec .decode s = .refused (.notEnabled "DECODE")) ∧
  (∀ s : State, (∀ a, s.sA = some a → s.latch .phA = a) ∧ (∀ b, s.sB = some b → s.latch .phB = b)) ∧
  (∀ w : Nat, 2 ≤ w →
    wrapS w (-(2 ^ (w - 1)) - 1) = 2 ^ (w - 1) - 1 ∧ wrapS w (2 ^ (w - 1) - 1 + 1) = -(2 ^ (w - 1)) ∧
    ∀ v : Int, fitsS w v = true → wrapS w v = v)

/-- The outcome rows of the table (R76): each completes in a DECODE whose vector is its own, with DECODE's effect, and
DECODE is the outcome its vector selects (the rows as instructions of their own are the model's, log entry 11). -/
def Obligations.OutcomeRowsAreDecode : Prop :=
  ∀ s : State, s.seq = .decode → s.cfg.posOverflow = .wrap →
    exec .decode s = exec (decodeQ (qVector s)) s ∧
    (qVector s = 0x21 → exec .qdec s = .next { s with pos := wrapS s.cfg.wPos (s.pos - 1), seq := .btnReset }) ∧
    (qVector s = 0x12 → exec .qinc s = .next { s with pos := wrapS s.cfg.wPos (s.pos + 1), seq := .btnReset }) ∧
    (∀ q : QVec, q ≠ 0x21 → q ≠ 0x12 → qVector s = q → exec (.qnop q) s = .next { s with seq := .btnReset }) ∧
    (∀ i, i = .qdec ∨ i = .qinc ∨ (∃ q, i = .qnop q) → i ≠ decodeQ (qVector s) →
      exec i s = .refused (.notEnabled (mnemonicOf i)))

/-- R75: the bits of the decoder vector. -/
def Obligations.DecoderVectorBits : Prop :=
  ∀ s : State,
    (qVector s).getLsbD 5 = s.latch .phA ∧ (qVector s).getLsbD 4 = s.latch .phB ∧ (qVector s).getLsbD 3 = s.curA ∧
    (qVector s).getLsbD 2 = s.curB ∧ (qVector s).getLsbD 1 = s.prevA ∧ (qVector s).getLsbD 0 = s.prevB

/-- POS_OVERFLOW = fault (U6): the counting DECODE stops exactly when POS would leave its range, and otherwise counts; at
a vector that does not count it completes; the outcome rows do what DECODE does at their vectors (log entry 11). -/
def Obligations.OverflowFaultsWhereChosen : Prop :=
  ∀ s : State, s.seq = .decode → s.cfg.posOverflow = .fault → 2 ≤ s.cfg.wPos →
    (qVector s = 0x21 → s.pos = -(2 ^ (s.cfg.wPos - 1)) → exec .decode s = .fault .posOverflow) ∧
    (qVector s = 0x12 → s.pos = 2 ^ (s.cfg.wPos - 1) - 1 → exec .decode s = .fault .posOverflow) ∧
    (qVector s = 0x21 → fitsS s.cfg.wPos (s.pos - 1) = true →
      exec .decode s = .next { s with pos := s.pos - 1, seq := .btnReset }) ∧
    (qVector s = 0x12 → fitsS s.cfg.wPos (s.pos + 1) = true →
      exec .decode s = .next { s with pos := s.pos + 1, seq := .btnReset }) ∧
    (qVector s ≠ 0x21 → qVector s ≠ 0x12 →
      exec .decode s = .next { s with seq := .btnReset } ∧
      exec (.qnop (qVector s)) s = .next { s with seq := .btnReset }) ∧
    (qVector s = 0x21 → exec .qdec s = exec .decode s) ∧
    (qVector s = 0x12 → exec .qinc s = exec .decode s) ∧
    (∀ i, i = .qdec ∨ i = .qinc ∨ (∃ q, i = .qnop q) → i ≠ decodeQ (qVector s) →
      exec i s = .refused (.notEnabled (mnemonicOf i)))

/-- R125: the button line high resets POS; low, POS keeps what DECODE left; the history is not touched. -/
def Obligations.BtnResetClearsOnHigh : Prop :=
  encode .btnReset = .evt 0x8000 ∧
  ∀ s : State,
    (s.seq = .btnReset → s.latch .btn = true → exec .btnReset s = .next { s with pos := 0, seq := .report }) ∧
    (s.seq = .btnReset → s.latch .btn = false → exec .btnReset s = .next { s with seq := .report }) ∧
    (s.seq ≠ .btnReset → exec .btnReset s = .refused (.notEnabled "BTN_RESET")) ∧
    (∀ v, s.sBtn = some v → s.latch .btn = v)

/-- R126 and R128: REPORT reads the clock once, and where the value is a multiple of the interval writes one status
line of POS, whole or, failing, its first k bytes. -/
def Obligations.ReportWritesAtMultiples : Prop :=
  encode (.report false 0) = .evt 0x9000 ∧ (∀ k, k < 2 ^ 11 → encode (.report true k) = .evt (BitVec.ofNat 16 (0x9800 + k))) ∧
  ∀ (s : State) (k : Nat),
    (s.seq = .report → s.millis % s.cfg.reportInterval ≠ 0 →
      exec (.report false k) s = .next { s with tLatch := some s.millis, seq := .shift }) ∧
    (s.seq = .report → s.millis % s.cfg.reportInterval = 0 →
      exec (.report false k) s =
        .next { s with tLatch := some s.millis, tx := s.tx ++ statusLine s.cfg s.pos, seq := .shift }) ∧
    (s.seq = .report → s.millis % s.cfg.reportInterval = 0 → k < (statusLine s.cfg s.pos).length →
      ∃ m, exec (.report true k) s =
        .next { s with tLatch := some s.millis, tx := s.tx ++ (statusLine s.cfg s.pos).take k,
                       fault := .outputWriteFailure, seq := .halt, millis := m }) ∧
    (s.seq = .report → s.millis % s.cfg.reportInterval ≠ 0 ∨ (statusLine s.cfg s.pos).length ≤ k →
      exec (.report true k) s = .refused (.notEnabled "REPORT")) ∧
    (s.seq ≠ .report → ∀ fail, exec (.report fail k) s = .refused (.notEnabled "REPORT"))

/-- The spacing of the gate (R127 d): before the wrap, the gate opens exactly at the common multiples of INC and
REPORT_INTERVAL. -/
def Obligations.GateOpensAtCommonMultiples : Prop :=
  ∀ (c : Config) (k : Nat), k * c.inc < 2 ^ c.wMs →
    (gateOpen c ((k * c.inc) % 2 ^ c.wMs) = true ↔ Nat.lcm c.inc c.reportInterval ∣ k * c.inc)

/-- R129: SHIFT moves the history exactly when the fresh pair differs from the one-back pair, all four writes reading
the old values. -/
def Obligations.ShiftMovesHistoryOnChange : Prop :=
  encode .shift = .evt 0xA000 ∧
  ∀ s : State,
    (s.seq = .shift → s.latch .phA ≠ s.curA ∨ s.latch .phB ≠ s.curB →
      exec .shift s = .next { s with prevA := s.curA, prevB := s.curB, curA := s.latch .phA, curB := s.latch .phB,
                                     seq := .sample }) ∧
    (s.seq = .shift → s.latch .phA = s.curA → s.latch .phB = s.curB →
      exec .shift s = .next { s with seq := .sample }) ∧
    (s.seq ≠ .shift → exec .shift s = .refused (.notEnabled "SHIFT")) ∧
    (∀ a b, s.sA = some a → s.sB = some b → s.latch .phA = a ∧ s.latch .phB = b)

/-- One iteration is one atomic step (R130). -/
def Obligations.IterationIsOneAtomicStep : Prop :=
  ∀ (btn a b : Bool) (s : State), s.seq = .sample → s.cfg.posOverflow = .wrap →
    runEvents (iterEvents btn a b) s = .next (iterationStep btn a b s)

/-- Idempotence (R131): repeated identical samples never alter the history, and alter POS through the button alone. -/
def Obligations.RepeatedSamplesChangeNothing : Prop :=
  ∀ (buttons : List Bool) (s : State), s.seq = .sample →
    ∃ t, runEvents (iterations (buttons.map fun btn => (btn, s.curA, s.curB))) s = .next t ∧
      t.curA = s.curA ∧ t.curB = s.curB ∧ t.prevA = s.prevA ∧ t.prevB = s.prevB ∧
      t.pos = if buttons.any id then 0 else s.pos

/-- The bound of R132 and the precedence of R135: with the button low an iteration changes POS by -1, 0 or +1 and a
count is not repeated by the next iteration; with it high POS is 0; the history does not depend on the button. -/
def Obligations.CountsAreByOneAndNeverRepeated : Prop :=
  ∀ (a b : Bool) (s : State), s.seq = .sample → s.cfg.posOverflow = .wrap →
    ∃ low high, runEvents (iterEvents false a b) s = .next low ∧ runEvents (iterEvents true a b) s = .next high ∧
      (low.pos = s.pos ∨ low.pos = wrapS s.cfg.wPos (s.pos - 1) ∨ low.pos = wrapS s.cfg.wPos (s.pos + 1)) ∧
      high.pos = 0 ∧
      low.curA = high.curA ∧ low.curB = high.curB ∧ low.prevA = high.prevA ∧ low.prevB = high.prevB ∧
      (low.pos ≠ s.pos → ∀ a' b', ∃ u, runEvents (iterEvents false a' b') low = .next u ∧ u.pos = low.pos)

/-- Clean rotation (R133): once the history has come round, a full turn with A first, each state held for any number of
iterations, counts -1 exactly, and one with B first +1. -/
def Obligations.CleanRotationCountsOncePerCycle : Prop :=
  (∀ (n1 n2 n3 n4 : Nat) (s : State), s.seq = .sample → s.cfg.posOverflow = .wrap →
    (s.curA, s.curB, s.prevA, s.prevB) = (false, false, false, true) →
    ∃ t, runEvents (iterations (held n1 true false ++ held n2 true true ++ held n3 false true ++ held n4 false false)) s =
        .next t ∧ t.pos = wrapS s.cfg.wPos (s.pos - 1) ∧
      (t.curA, t.curB, t.prevA, t.prevB) = (false, false, false, true)) ∧
  (∀ (n1 n2 n3 n4 : Nat) (s : State), s.seq = .sample → s.cfg.posOverflow = .wrap →
    (s.curA, s.curB, s.prevA, s.prevB) = (false, false, true, false) →
    ∃ t, runEvents (iterations (held n1 false true ++ held n2 true true ++ held n3 true false ++ held n4 false false)) s =
        .next t ∧ t.pos = wrapS s.cfg.wPos (s.pos + 1) ∧
      (t.curA, t.curB, t.prevA, t.prevB) = (false, false, true, false))

/-- Bounce (R134 b): one phase bouncing around 00, any number of times, never counts. -/
def Obligations.BounceAroundZeroNeverCounts : Prop :=
  ∀ (n : Nat) (s : State), s.seq = .sample → (s.curA, s.curB) = (false, false) →
    (s.prevB = false →
      ∃ t, runEvents (iterations (List.replicate n [(false, true, false), (false, false, false)]).flatten) s = .next t ∧
        t.pos = s.pos) ∧
    (s.prevA = false →
      ∃ t, runEvents (iterations (List.replicate n [(false, false, true), (false, false, false)]).flatten) s = .next t ∧
        t.pos = s.pos)

/-- R136: each of the five loop events is enabled as soon as SEQ names it and completes in one step; the loop stops by
a failing write in REPORT only. -/
def Obligations.LoopNeverStalls : Prop :=
  (∀ (btn a b : Bool) (i : Instr) (s : State), s.seq = .sample ∨ afterSample s.seq = true →
    namedEvent btn a b s.seq = some i → s.cfg.posOverflow = .wrap →
    ∃ t, exec i s = .next t ∧ t.seq = successor s.seq) ∧
  (∀ i s t, s.seq = .sample ∨ afterSample s.seq = true → exec i s = .next t → t.seq = .halt → ∃ k, i = .report true k)

/-! The serial text (30_encoding.md R79 to R81, 20_memory.md R53) -/

/-- R79, R80 and R81: the bytes of the status line, its length, no linefeed in it, and the decimal text of a number. -/
def Obligations.StatusLineBytes : Prop :=
  (∀ (c : Config) (v : Int),
    statusLine c v = List.replicate c.blankLen 0x20 ++ [0x0D] ++
      [0x63, 0x6F, 0x75, 0x6E, 0x74, 0x65, 0x72, 0x3A, 0x20] ++ decText v ++ [0x0D] ∧
    (statusLine c v).length = c.blankLen + 1 + 9 + (decText v).length + 1 ∧ 0x0A ∉ statusLine c v) ∧
  (∀ v : Int, decText v = if v < 0 then 0x2D :: digits (-v).toNat else digits v.toNat) ∧
  (∀ m : Nat, digits m =
    if m < 10 then [BitVec.ofNat 8 (0x30 + m)] else digits (m / 10) ++ [BitVec.ofNat 8 (0x30 + m % 10)])

/-- The text of a position determines it: two positions with one text are equal (R81). -/
def Obligations.DecimalTextIsUnambiguous : Prop :=
  ∀ v w : Int, decText v = decText w → v = w

/-- R53: TxWrite appends the whole message, or its first k bytes, k any number below its length, and raises
OutputWriteFailure; an empty message cannot fail. -/
def Obligations.TxWriteAppendsOrRaises : Prop :=
  ∀ (msg : List Byte) (k : Nat) (s : State),
    txWrite msg false k s = { s with tx := s.tx ++ msg } ∧
    (∃ m, txWrite msg true k s =
      { s with tx := s.tx ++ msg.take k, fault := .outputWriteFailure, seq := .halt, millis := m }) ∧
    (writeAdmits msg true k = true ↔ k < msg.length) ∧ writeAdmits msg false k = true

/-- R32: only GREET and REPORT append to TX, nothing but RESET removes a byte, and no event reads it. -/
def Obligations.TxIsAppendOnly : Prop :=
  ∀ i s t, i ≠ .reset → exec i s = .next t →
    (∃ bytes, t.tx = s.tx ++ bytes) ∧
    (t.tx ≠ s.tx → (∃ f k, i = .greet f k) ∨ (∃ f k, i = .report f k)) ∧
    (∀ earlier, exec i { s with tx := earlier ++ s.tx } = .next { t with tx := earlier ++ t.tx })

/-! Faults, ownership, the sequencer (60_exceptions.md, 10_state.md) -/

/-- R151: which event records which fault, for which cause, and the codes; with the cause, the event records it. -/
def Obligations.OnlyTheTableOfFaultsIsRaised : Prop :=
  FatalCode.none.code = 0 ∧ FatalCode.configError.code = 1 ∧ FatalCode.peripheralUnavailable.code = 2 ∧
  FatalCode.outputWriteFailure.code = 3 ∧
  (∀ i s t, exec i s = .next t → s.fault = .none → t.fault ≠ .none →
    (i = .clockInit ∧ t.fault = .configError ∧ s.cfg.prescaler ∉ s.cfg.supportedPrescalers) ∨
    (i = .acquire true ∧ t.fault = .peripheralUnavailable) ∨
    ((∃ k, i = .greet true k ∨ i = .report true k) ∧ t.fault = .outputWriteFailure)) ∧
  (∀ s t, exec .clockInit s = .next t → s.cfg.prescaler ∉ s.cfg.supportedPrescalers → t.fault = .configError) ∧
  (∀ s t, exec (.acquire true) s = .next t → t.fault = .peripheralUnavailable) ∧
  (∀ k s t, exec (.greet true k) s = .next t ∨ exec (.report true k) s = .next t → t.fault = .outputWriteFailure)

/-- R154: nothing but RESET leaves HALT or clears FAULT, and RESET does both. -/
def Obligations.HaltIsLeftByResetOnly : Prop :=
  (∀ i s t, exec i s = .next t → s.seq = .halt → i = .reset) ∧
  (∀ i s t, exec i s = .next t → s.fault ≠ .none → t.fault = .none → i = .reset) ∧
  (∀ s, s.seq = .halt → ∀ i, i ≠ .reset → exec i s = .refused (.notEnabled (mnemonicOf i))) ∧
  (∀ s, ∃ t, exec .reset s = .next t ∧ t.seq = .acquire ∧ t.fault = .none)

/-- R27: a MAIN event is performed only where SEQ names it (an outcome row where SEQ names DECODE) and moves SEQ to the
successor of the table, or to HALT with the fault of the table; events of the other agents, RESET apart, leave SEQ. The
outcome rows as MAIN events are the model's (log entry 11). -/
def Obligations.SequencerFollowsTheTable : Prop :=
  ∀ i s t, exec i s = .next t →
    (agentOf i = .main → s.seq ≠ .halt ∧
      (∃ j, namedEvent false false false s.seq = some j ∧
        (mnemonicOf j = mnemonicOf i ∨ (j = .decode ∧ (i = .qdec ∨ i = .qinc ∨ ∃ q, i = .qnop q)))) ∧
      ((t.seq = successor s.seq ∧ t.fault = s.fault) ∨
        (t.seq = .halt ∧
          ((s.seq = .acquire ∧ t.fault = .peripheralUnavailable) ∨ (s.seq = .clockInit ∧ t.fault = .configError) ∨
            ((s.seq = .greet ∨ s.seq = .report) ∧ t.fault = .outputWriteFailure))))) ∧
    (agentOf i ≠ .main → i ≠ .reset → t.seq = s.seq)

/-- The table of writers of 10_state.md R20: an element changes only under an event that the table names for it,
and POS under the outcome rows of DECODE (log entry 11). -/
def Obligations.ElementsChangeUnderTheirWritersOnly : Prop :=
  ∀ i s t, exec i s = .next t → i ≠ .reset →
    (t.seq ≠ .halt → t.millis ≠ s.millis → i = .tick ∨ i = .clockInit) ∧
    ((t.curA, t.curB, t.prevA, t.prevB) ≠ (s.curA, s.curB, s.prevA, s.prevB) → i = .shift) ∧
    (t.pos ≠ s.pos → i = .decode ∨ i = .qdec ∨ i = .qinc ∨ i = .btnReset) ∧
    ((t.sBtn, t.sA, t.sB) ≠ (s.sBtn, s.sA, s.sB) → ∃ btn a b, i = .sample btn a b) ∧
    (t.tLatch ≠ s.tLatch → i = .nowMillis ∨ ∃ f k, i = .report f k) ∧
    (t.gie ≠ s.gie → i = .irqEn) ∧ (t.irqPend ≠ s.irqPend → i = .cmpMatch ∨ i = .tick) ∧
    (t.tmrRun ≠ s.tmrRun → i = .clockInit) ∧ (t.seq ≠ s.seq → agentOf i = .main) ∧
    (t.fault ≠ s.fault → i = .clockInit ∨ (∃ u, i = .acquire u) ∨ (∃ f k, i = .greet f k) ∨ ∃ f k, i = .report f k) ∧
    (t.tx ≠ s.tx → (∃ f k, i = .greet f k) ∨ ∃ f k, i = .report f k)

/-- Ownership (R33, R64): an event of TMR or IRQ leaves everything private to MAIN, and what it does to the clock
depends on the clock alone. -/
def Obligations.InterruptSideIsIsolated : Prop :=
  ∀ i s t, agentOf i = .tmr ∨ agentOf i = .irq → exec i s = .next t →
    SamePrivate s t ∧ SameModel s t ∧
    ∀ s', SameClock s s' → s'.cfg = s.cfg → s'.seq ≠ .halt → ∃ t', exec i s' = .next t' ∧ SameClock t t'

/-- Isolation (R33, R109): what a MAIN event does to MAIN's own state, and so to what an observer sees, does not depend
on the clock, but for REPORT, which depends on the value of MILLIS alone. -/
def Obligations.MainSeesTheClockThroughReportOnly : Prop :=
  ∀ i s s' t, agentOf i = .main → SamePrivate s s' → SameModel s s' →
    ((∃ f k, i = .report f k) → s'.millis = s.millis) → exec i s = .next t →
    ∃ t', exec i s' = .next t' ∧ SamePrivate t t' ∧ observe i t' = observe i t

/-- What a schedule decides (R109): two runs from one state, with no RESET, that perform the same MAIN events in the same
order, with as many TICKs before each REPORT and CLOCK_INIT, write the same TX and end alike for MAIN, wherever their
edges, ticks and probes fall. -/
def Obligations.OnlyTickCountsBeforeReportsMatter : Prop :=
  ∀ xs ys s t u, runEvents xs s = .next t → runEvents ys s = .next u → .reset ∉ xs → .reset ∉ ys →
    mainView xs 0 = mainView ys 0 →
    t.tx = u.tx ∧ t.seq = u.seq ∧ t.fault = u.fault ∧ t.pos = u.pos ∧
    (t.curA, t.curB, t.prevA, t.prevB) = (u.curA, u.curB, u.prevA, u.prevB) ∧
    (t.sBtn, t.sA, t.sB) = (u.sBtn, u.sA, u.sB)

/-! Arithmetic and invariants -/

/-- The wrapping operations are those of unsigned and two's-complement vectors of N bits (R8). -/
def Obligations.WrappingIsModular : Prop :=
  (∀ n a b : Nat, addU n a b = (BitVec.ofNat n a + BitVec.ofNat n b).toNat) ∧
  (∀ (n : Nat) (v : Int), wrapS n v = (BitVec.ofInt n v).toInt) ∧
  (∀ (n : Nat) (v : Int), 1 ≤ n → fitsS n (wrapS n v) = true)

/-- The invariant of the block holds at reset. -/
def Obligations.ResetMeetsTheBlockInvariant : Prop := BlockInv State.reset

/-- Every step, from any state that meets the invariant, gives a state that meets it. -/
def Obligations.EveryStepKeepsTheBlockInvariant : Prop :=
  ∀ s t, BlockInv s → step s = .next t → BlockInv t
end

