-- ==== Sys2Proof/Laws/State.lean ====
section
/-!
SUPPORT. Laws/State.lean: what each named update of the state writes and leaves, one lemma per field and update.
-/

namespace Sys2Proof.Machine

variable (s : State)

@[simp] theorem State.setMillis_millis (v : Nat) : (s.setMillis v).millis = v := rfl
@[simp] theorem State.setMillis_curA (v : Nat) : (s.setMillis v).curA = s.curA := rfl
@[simp] theorem State.setMillis_curB (v : Nat) : (s.setMillis v).curB = s.curB := rfl
@[simp] theorem State.setMillis_prevA (v : Nat) : (s.setMillis v).prevA = s.prevA := rfl
@[simp] theorem State.setMillis_prevB (v : Nat) : (s.setMillis v).prevB = s.prevB := rfl
@[simp] theorem State.setMillis_pos (v : Nat) : (s.setMillis v).pos = s.pos := rfl
@[simp] theorem State.setMillis_sBtn (v : Nat) : (s.setMillis v).sBtn = s.sBtn := rfl
@[simp] theorem State.setMillis_sA (v : Nat) : (s.setMillis v).sA = s.sA := rfl
@[simp] theorem State.setMillis_sB (v : Nat) : (s.setMillis v).sB = s.sB := rfl
@[simp] theorem State.setMillis_tLatch (v : Nat) : (s.setMillis v).tLatch = s.tLatch := rfl
@[simp] theorem State.setMillis_seq (v : Nat) : (s.setMillis v).seq = s.seq := rfl
@[simp] theorem State.setMillis_gie (v : Nat) : (s.setMillis v).gie = s.gie := rfl
@[simp] theorem State.setMillis_irqPend (v : Nat) : (s.setMillis v).irqPend = s.irqPend := rfl
@[simp] theorem State.setMillis_tmrRun (v : Nat) : (s.setMillis v).tmrRun = s.tmrRun := rfl
@[simp] theorem State.setMillis_fault (v : Nat) : (s.setMillis v).fault = s.fault := rfl
@[simp] theorem State.setMillis_tx (v : Nat) : (s.setMillis v).tx = s.tx := rfl
@[simp] theorem State.setMillis_cfg (v : Nat) : (s.setMillis v).cfg = s.cfg := rfl
@[simp] theorem State.setMillis_trace (v : Nat) : (s.setMillis v).trace = s.trace := rfl
@[simp] theorem State.setMillis_eventNo (v : Nat) : (s.setMillis v).eventNo = s.eventNo := rfl

@[simp] theorem State.setPos_millis (v : Int) : (s.setPos v).millis = s.millis := rfl
@[simp] theorem State.setPos_curA (v : Int) : (s.setPos v).curA = s.curA := rfl
@[simp] theorem State.setPos_curB (v : Int) : (s.setPos v).curB = s.curB := rfl
@[simp] theorem State.setPos_prevA (v : Int) : (s.setPos v).prevA = s.prevA := rfl
@[simp] theorem State.setPos_prevB (v : Int) : (s.setPos v).prevB = s.prevB := rfl
@[simp] theorem State.setPos_pos (v : Int) : (s.setPos v).pos = v := rfl
@[simp] theorem State.setPos_sBtn (v : Int) : (s.setPos v).sBtn = s.sBtn := rfl
@[simp] theorem State.setPos_sA (v : Int) : (s.setPos v).sA = s.sA := rfl
@[simp] theorem State.setPos_sB (v : Int) : (s.setPos v).sB = s.sB := rfl
@[simp] theorem State.setPos_tLatch (v : Int) : (s.setPos v).tLatch = s.tLatch := rfl
@[simp] theorem State.setPos_seq (v : Int) : (s.setPos v).seq = s.seq := rfl
@[simp] theorem State.setPos_gie (v : Int) : (s.setPos v).gie = s.gie := rfl
@[simp] theorem State.setPos_irqPend (v : Int) : (s.setPos v).irqPend = s.irqPend := rfl
@[simp] theorem State.setPos_tmrRun (v : Int) : (s.setPos v).tmrRun = s.tmrRun := rfl
@[simp] theorem State.setPos_fault (v : Int) : (s.setPos v).fault = s.fault := rfl
@[simp] theorem State.setPos_tx (v : Int) : (s.setPos v).tx = s.tx := rfl
@[simp] theorem State.setPos_cfg (v : Int) : (s.setPos v).cfg = s.cfg := rfl
@[simp] theorem State.setPos_trace (v : Int) : (s.setPos v).trace = s.trace := rfl
@[simp] theorem State.setPos_eventNo (v : Int) : (s.setPos v).eventNo = s.eventNo := rfl

@[simp] theorem State.setSamples_millis (btn a b : Bool) : (s.setSamples btn a b).millis = s.millis := rfl
@[simp] theorem State.setSamples_curA (btn a b : Bool) : (s.setSamples btn a b).curA = s.curA := rfl
@[simp] theorem State.setSamples_curB (btn a b : Bool) : (s.setSamples btn a b).curB = s.curB := rfl
@[simp] theorem State.setSamples_prevA (btn a b : Bool) : (s.setSamples btn a b).prevA = s.prevA := rfl
@[simp] theorem State.setSamples_prevB (btn a b : Bool) : (s.setSamples btn a b).prevB = s.prevB := rfl
@[simp] theorem State.setSamples_pos (btn a b : Bool) : (s.setSamples btn a b).pos = s.pos := rfl
@[simp] theorem State.setSamples_sBtn (btn a b : Bool) : (s.setSamples btn a b).sBtn = some btn := rfl
@[simp] theorem State.setSamples_sA (btn a b : Bool) : (s.setSamples btn a b).sA = some a := rfl
@[simp] theorem State.setSamples_sB (btn a b : Bool) : (s.setSamples btn a b).sB = some b := rfl
@[simp] theorem State.setSamples_tLatch (btn a b : Bool) : (s.setSamples btn a b).tLatch = s.tLatch := rfl
@[simp] theorem State.setSamples_seq (btn a b : Bool) : (s.setSamples btn a b).seq = s.seq := rfl
@[simp] theorem State.setSamples_gie (btn a b : Bool) : (s.setSamples btn a b).gie = s.gie := rfl
@[simp] theorem State.setSamples_irqPend (btn a b : Bool) : (s.setSamples btn a b).irqPend = s.irqPend := rfl
@[simp] theorem State.setSamples_tmrRun (btn a b : Bool) : (s.setSamples btn a b).tmrRun = s.tmrRun := rfl
@[simp] theorem State.setSamples_fault (btn a b : Bool) : (s.setSamples btn a b).fault = s.fault := rfl
@[simp] theorem State.setSamples_tx (btn a b : Bool) : (s.setSamples btn a b).tx = s.tx := rfl
@[simp] theorem State.setSamples_cfg (btn a b : Bool) : (s.setSamples btn a b).cfg = s.cfg := rfl
@[simp] theorem State.setSamples_trace (btn a b : Bool) : (s.setSamples btn a b).trace = s.trace := rfl
@[simp] theorem State.setSamples_eventNo (btn a b : Bool) : (s.setSamples btn a b).eventNo = s.eventNo := rfl

@[simp] theorem State.setHistory_millis (a b pa pb : Bool) : (s.setHistory a b pa pb).millis = s.millis := rfl
@[simp] theorem State.setHistory_curA (a b pa pb : Bool) : (s.setHistory a b pa pb).curA = a := rfl
@[simp] theorem State.setHistory_curB (a b pa pb : Bool) : (s.setHistory a b pa pb).curB = b := rfl
@[simp] theorem State.setHistory_prevA (a b pa pb : Bool) : (s.setHistory a b pa pb).prevA = pa := rfl
@[simp] theorem State.setHistory_prevB (a b pa pb : Bool) : (s.setHistory a b pa pb).prevB = pb := rfl
@[simp] theorem State.setHistory_pos (a b pa pb : Bool) : (s.setHistory a b pa pb).pos = s.pos := rfl
@[simp] theorem State.setHistory_sBtn (a b pa pb : Bool) : (s.setHistory a b pa pb).sBtn = s.sBtn := rfl
@[simp] theorem State.setHistory_sA (a b pa pb : Bool) : (s.setHistory a b pa pb).sA = s.sA := rfl
@[simp] theorem State.setHistory_sB (a b pa pb : Bool) : (s.setHistory a b pa pb).sB = s.sB := rfl
@[simp] theorem State.setHistory_tLatch (a b pa pb : Bool) : (s.setHistory a b pa pb).tLatch = s.tLatch := rfl
@[simp] theorem State.setHistory_seq (a b pa pb : Bool) : (s.setHistory a b pa pb).seq = s.seq := rfl
@[simp] theorem State.setHistory_gie (a b pa pb : Bool) : (s.setHistory a b pa pb).gie = s.gie := rfl
@[simp] theorem State.setHistory_irqPend (a b pa pb : Bool) : (s.setHistory a b pa pb).irqPend = s.irqPend := rfl
@[simp] theorem State.setHistory_tmrRun (a b pa pb : Bool) : (s.setHistory a b pa pb).tmrRun = s.tmrRun := rfl
@[simp] theorem State.setHistory_fault (a b pa pb : Bool) : (s.setHistory a b pa pb).fault = s.fault := rfl
@[simp] theorem State.setHistory_tx (a b pa pb : Bool) : (s.setHistory a b pa pb).tx = s.tx := rfl
@[simp] theorem State.setHistory_cfg (a b pa pb : Bool) : (s.setHistory a b pa pb).cfg = s.cfg := rfl
@[simp] theorem State.setHistory_trace (a b pa pb : Bool) : (s.setHistory a b pa pb).trace = s.trace := rfl
@[simp] theorem State.setHistory_eventNo (a b pa pb : Bool) : (s.setHistory a b pa pb).eventNo = s.eventNo := rfl

@[simp] theorem State.setTLatch_millis (v : Nat) : (s.setTLatch v).millis = s.millis := rfl
@[simp] theorem State.setTLatch_curA (v : Nat) : (s.setTLatch v).curA = s.curA := rfl
@[simp] theorem State.setTLatch_curB (v : Nat) : (s.setTLatch v).curB = s.curB := rfl
@[simp] theorem State.setTLatch_prevA (v : Nat) : (s.setTLatch v).prevA = s.prevA := rfl
@[simp] theorem State.setTLatch_prevB (v : Nat) : (s.setTLatch v).prevB = s.prevB := rfl
@[simp] theorem State.setTLatch_pos (v : Nat) : (s.setTLatch v).pos = s.pos := rfl
@[simp] theorem State.setTLatch_sBtn (v : Nat) : (s.setTLatch v).sBtn = s.sBtn := rfl
@[simp] theorem State.setTLatch_sA (v : Nat) : (s.setTLatch v).sA = s.sA := rfl
@[simp] theorem State.setTLatch_sB (v : Nat) : (s.setTLatch v).sB = s.sB := rfl
@[simp] theorem State.setTLatch_tLatch (v : Nat) : (s.setTLatch v).tLatch = some v := rfl
@[simp] theorem State.setTLatch_seq (v : Nat) : (s.setTLatch v).seq = s.seq := rfl
@[simp] theorem State.setTLatch_gie (v : Nat) : (s.setTLatch v).gie = s.gie := rfl
@[simp] theorem State.setTLatch_irqPend (v : Nat) : (s.setTLatch v).irqPend = s.irqPend := rfl
@[simp] theorem State.setTLatch_tmrRun (v : Nat) : (s.setTLatch v).tmrRun = s.tmrRun := rfl
@[simp] theorem State.setTLatch_fault (v : Nat) : (s.setTLatch v).fault = s.fault := rfl
@[simp] theorem State.setTLatch_tx (v : Nat) : (s.setTLatch v).tx = s.tx := rfl
@[simp] theorem State.setTLatch_cfg (v : Nat) : (s.setTLatch v).cfg = s.cfg := rfl
@[simp] theorem State.setTLatch_trace (v : Nat) : (s.setTLatch v).trace = s.trace := rfl
@[simp] theorem State.setTLatch_eventNo (v : Nat) : (s.setTLatch v).eventNo = s.eventNo := rfl

@[simp] theorem State.setSeq_millis (q : Seq) : (s.setSeq q).millis = s.millis := rfl
@[simp] theorem State.setSeq_curA (q : Seq) : (s.setSeq q).curA = s.curA := rfl
@[simp] theorem State.setSeq_curB (q : Seq) : (s.setSeq q).curB = s.curB := rfl
@[simp] theorem State.setSeq_prevA (q : Seq) : (s.setSeq q).prevA = s.prevA := rfl
@[simp] theorem State.setSeq_prevB (q : Seq) : (s.setSeq q).prevB = s.prevB := rfl
@[simp] theorem State.setSeq_pos (q : Seq) : (s.setSeq q).pos = s.pos := rfl
@[simp] theorem State.setSeq_sBtn (q : Seq) : (s.setSeq q).sBtn = s.sBtn := rfl
@[simp] theorem State.setSeq_sA (q : Seq) : (s.setSeq q).sA = s.sA := rfl
@[simp] theorem State.setSeq_sB (q : Seq) : (s.setSeq q).sB = s.sB := rfl
@[simp] theorem State.setSeq_tLatch (q : Seq) : (s.setSeq q).tLatch = s.tLatch := rfl
@[simp] theorem State.setSeq_seq (q : Seq) : (s.setSeq q).seq = q := rfl
@[simp] theorem State.setSeq_gie (q : Seq) : (s.setSeq q).gie = s.gie := rfl
@[simp] theorem State.setSeq_irqPend (q : Seq) : (s.setSeq q).irqPend = s.irqPend := rfl
@[simp] theorem State.setSeq_tmrRun (q : Seq) : (s.setSeq q).tmrRun = s.tmrRun := rfl
@[simp] theorem State.setSeq_fault (q : Seq) : (s.setSeq q).fault = s.fault := rfl
@[simp] theorem State.setSeq_tx (q : Seq) : (s.setSeq q).tx = s.tx := rfl
@[simp] theorem State.setSeq_cfg (q : Seq) : (s.setSeq q).cfg = s.cfg := rfl
@[simp] theorem State.setSeq_trace (q : Seq) : (s.setSeq q).trace = s.trace := rfl
@[simp] theorem State.setSeq_eventNo (q : Seq) : (s.setSeq q).eventNo = s.eventNo := rfl

@[simp] theorem State.setGie_millis (g : Bool) : (s.setGie g).millis = s.millis := rfl
@[simp] theorem State.setGie_curA (g : Bool) : (s.setGie g).curA = s.curA := rfl
@[simp] theorem State.setGie_curB (g : Bool) : (s.setGie g).curB = s.curB := rfl
@[simp] theorem State.setGie_prevA (g : Bool) : (s.setGie g).prevA = s.prevA := rfl
@[simp] theorem State.setGie_prevB (g : Bool) : (s.setGie g).prevB = s.prevB := rfl
@[simp] theorem State.setGie_pos (g : Bool) : (s.setGie g).pos = s.pos := rfl
@[simp] theorem State.setGie_sBtn (g : Bool) : (s.setGie g).sBtn = s.sBtn := rfl
@[simp] theorem State.setGie_sA (g : Bool) : (s.setGie g).sA = s.sA := rfl
@[simp] theorem State.setGie_sB (g : Bool) : (s.setGie g).sB = s.sB := rfl
@[simp] theorem State.setGie_tLatch (g : Bool) : (s.setGie g).tLatch = s.tLatch := rfl
@[simp] theorem State.setGie_seq (g : Bool) : (s.setGie g).seq = s.seq := rfl
@[simp] theorem State.setGie_gie (g : Bool) : (s.setGie g).gie = g := rfl
@[simp] theorem State.setGie_irqPend (g : Bool) : (s.setGie g).irqPend = s.irqPend := rfl
@[simp] theorem State.setGie_tmrRun (g : Bool) : (s.setGie g).tmrRun = s.tmrRun := rfl
@[simp] theorem State.setGie_fault (g : Bool) : (s.setGie g).fault = s.fault := rfl
@[simp] theorem State.setGie_tx (g : Bool) : (s.setGie g).tx = s.tx := rfl
@[simp] theorem State.setGie_cfg (g : Bool) : (s.setGie g).cfg = s.cfg := rfl
@[simp] theorem State.setGie_trace (g : Bool) : (s.setGie g).trace = s.trace := rfl
@[simp] theorem State.setGie_eventNo (g : Bool) : (s.setGie g).eventNo = s.eventNo := rfl

@[simp] theorem State.setIrqPend_millis (g : Bool) : (s.setIrqPend g).millis = s.millis := rfl
@[simp] theorem State.setIrqPend_curA (g : Bool) : (s.setIrqPend g).curA = s.curA := rfl
@[simp] theorem State.setIrqPend_curB (g : Bool) : (s.setIrqPend g).curB = s.curB := rfl
@[simp] theorem State.setIrqPend_prevA (g : Bool) : (s.setIrqPend g).prevA = s.prevA := rfl
@[simp] theorem State.setIrqPend_prevB (g : Bool) : (s.setIrqPend g).prevB = s.prevB := rfl
@[simp] theorem State.setIrqPend_pos (g : Bool) : (s.setIrqPend g).pos = s.pos := rfl
@[simp] theorem State.setIrqPend_sBtn (g : Bool) : (s.setIrqPend g).sBtn = s.sBtn := rfl
@[simp] theorem State.setIrqPend_sA (g : Bool) : (s.setIrqPend g).sA = s.sA := rfl
@[simp] theorem State.setIrqPend_sB (g : Bool) : (s.setIrqPend g).sB = s.sB := rfl
@[simp] theorem State.setIrqPend_tLatch (g : Bool) : (s.setIrqPend g).tLatch = s.tLatch := rfl
@[simp] theorem State.setIrqPend_seq (g : Bool) : (s.setIrqPend g).seq = s.seq := rfl
@[simp] theorem State.setIrqPend_gie (g : Bool) : (s.setIrqPend g).gie = s.gie := rfl
@[simp] theorem State.setIrqPend_irqPend (g : Bool) : (s.setIrqPend g).irqPend = g := rfl
@[simp] theorem State.setIrqPend_tmrRun (g : Bool) : (s.setIrqPend g).tmrRun = s.tmrRun := rfl
@[simp] theorem State.setIrqPend_fault (g : Bool) : (s.setIrqPend g).fault = s.fault := rfl
@[simp] theorem State.setIrqPend_tx (g : Bool) : (s.setIrqPend g).tx = s.tx := rfl
@[simp] theorem State.setIrqPend_cfg (g : Bool) : (s.setIrqPend g).cfg = s.cfg := rfl
@[simp] theorem State.setIrqPend_trace (g : Bool) : (s.setIrqPend g).trace = s.trace := rfl
@[simp] theorem State.setIrqPend_eventNo (g : Bool) : (s.setIrqPend g).eventNo = s.eventNo := rfl

@[simp] theorem State.setTmrRun_millis (g : Bool) : (s.setTmrRun g).millis = s.millis := rfl
@[simp] theorem State.setTmrRun_curA (g : Bool) : (s.setTmrRun g).curA = s.curA := rfl
@[simp] theorem State.setTmrRun_curB (g : Bool) : (s.setTmrRun g).curB = s.curB := rfl
@[simp] theorem State.setTmrRun_prevA (g : Bool) : (s.setTmrRun g).prevA = s.prevA := rfl
@[simp] theorem State.setTmrRun_prevB (g : Bool) : (s.setTmrRun g).prevB = s.prevB := rfl
@[simp] theorem State.setTmrRun_pos (g : Bool) : (s.setTmrRun g).pos = s.pos := rfl
@[simp] theorem State.setTmrRun_sBtn (g : Bool) : (s.setTmrRun g).sBtn = s.sBtn := rfl
@[simp] theorem State.setTmrRun_sA (g : Bool) : (s.setTmrRun g).sA = s.sA := rfl
@[simp] theorem State.setTmrRun_sB (g : Bool) : (s.setTmrRun g).sB = s.sB := rfl
@[simp] theorem State.setTmrRun_tLatch (g : Bool) : (s.setTmrRun g).tLatch = s.tLatch := rfl
@[simp] theorem State.setTmrRun_seq (g : Bool) : (s.setTmrRun g).seq = s.seq := rfl
@[simp] theorem State.setTmrRun_gie (g : Bool) : (s.setTmrRun g).gie = s.gie := rfl
@[simp] theorem State.setTmrRun_irqPend (g : Bool) : (s.setTmrRun g).irqPend = s.irqPend := rfl
@[simp] theorem State.setTmrRun_tmrRun (g : Bool) : (s.setTmrRun g).tmrRun = g := rfl
@[simp] theorem State.setTmrRun_fault (g : Bool) : (s.setTmrRun g).fault = s.fault := rfl
@[simp] theorem State.setTmrRun_tx (g : Bool) : (s.setTmrRun g).tx = s.tx := rfl
@[simp] theorem State.setTmrRun_cfg (g : Bool) : (s.setTmrRun g).cfg = s.cfg := rfl
@[simp] theorem State.setTmrRun_trace (g : Bool) : (s.setTmrRun g).trace = s.trace := rfl
@[simp] theorem State.setTmrRun_eventNo (g : Bool) : (s.setTmrRun g).eventNo = s.eventNo := rfl

@[simp] theorem State.setFault_millis (c : FatalCode) : (s.setFault c).millis = s.millis := rfl
@[simp] theorem State.setFault_curA (c : FatalCode) : (s.setFault c).curA = s.curA := rfl
@[simp] theorem State.setFault_curB (c : FatalCode) : (s.setFault c).curB = s.curB := rfl
@[simp] theorem State.setFault_prevA (c : FatalCode) : (s.setFault c).prevA = s.prevA := rfl
@[simp] theorem State.setFault_prevB (c : FatalCode) : (s.setFault c).prevB = s.prevB := rfl
@[simp] theorem State.setFault_pos (c : FatalCode) : (s.setFault c).pos = s.pos := rfl
@[simp] theorem State.setFault_sBtn (c : FatalCode) : (s.setFault c).sBtn = s.sBtn := rfl
@[simp] theorem State.setFault_sA (c : FatalCode) : (s.setFault c).sA = s.sA := rfl
@[simp] theorem State.setFault_sB (c : FatalCode) : (s.setFault c).sB = s.sB := rfl
@[simp] theorem State.setFault_tLatch (c : FatalCode) : (s.setFault c).tLatch = s.tLatch := rfl
@[simp] theorem State.setFault_seq (c : FatalCode) : (s.setFault c).seq = s.seq := rfl
@[simp] theorem State.setFault_gie (c : FatalCode) : (s.setFault c).gie = s.gie := rfl
@[simp] theorem State.setFault_irqPend (c : FatalCode) : (s.setFault c).irqPend = s.irqPend := rfl
@[simp] theorem State.setFault_tmrRun (c : FatalCode) : (s.setFault c).tmrRun = s.tmrRun := rfl
@[simp] theorem State.setFault_fault (c : FatalCode) : (s.setFault c).fault = c := rfl
@[simp] theorem State.setFault_tx (c : FatalCode) : (s.setFault c).tx = s.tx := rfl
@[simp] theorem State.setFault_cfg (c : FatalCode) : (s.setFault c).cfg = s.cfg := rfl
@[simp] theorem State.setFault_trace (c : FatalCode) : (s.setFault c).trace = s.trace := rfl
@[simp] theorem State.setFault_eventNo (c : FatalCode) : (s.setFault c).eventNo = s.eventNo := rfl

@[simp] theorem State.setTx_millis (t : List Byte) : (s.setTx t).millis = s.millis := rfl
@[simp] theorem State.setTx_curA (t : List Byte) : (s.setTx t).curA = s.curA := rfl
@[simp] theorem State.setTx_curB (t : List Byte) : (s.setTx t).curB = s.curB := rfl
@[simp] theorem State.setTx_prevA (t : List Byte) : (s.setTx t).prevA = s.prevA := rfl
@[simp] theorem State.setTx_prevB (t : List Byte) : (s.setTx t).prevB = s.prevB := rfl
@[simp] theorem State.setTx_pos (t : List Byte) : (s.setTx t).pos = s.pos := rfl
@[simp] theorem State.setTx_sBtn (t : List Byte) : (s.setTx t).sBtn = s.sBtn := rfl
@[simp] theorem State.setTx_sA (t : List Byte) : (s.setTx t).sA = s.sA := rfl
@[simp] theorem State.setTx_sB (t : List Byte) : (s.setTx t).sB = s.sB := rfl
@[simp] theorem State.setTx_tLatch (t : List Byte) : (s.setTx t).tLatch = s.tLatch := rfl
@[simp] theorem State.setTx_seq (t : List Byte) : (s.setTx t).seq = s.seq := rfl
@[simp] theorem State.setTx_gie (t : List Byte) : (s.setTx t).gie = s.gie := rfl
@[simp] theorem State.setTx_irqPend (t : List Byte) : (s.setTx t).irqPend = s.irqPend := rfl
@[simp] theorem State.setTx_tmrRun (t : List Byte) : (s.setTx t).tmrRun = s.tmrRun := rfl
@[simp] theorem State.setTx_fault (t : List Byte) : (s.setTx t).fault = s.fault := rfl
@[simp] theorem State.setTx_tx (t : List Byte) : (s.setTx t).tx = t := rfl
@[simp] theorem State.setTx_cfg (t : List Byte) : (s.setTx t).cfg = s.cfg := rfl
@[simp] theorem State.setTx_trace (t : List Byte) : (s.setTx t).trace = s.trace := rfl
@[simp] theorem State.setTx_eventNo (t : List Byte) : (s.setTx t).eventNo = s.eventNo := rfl

@[simp] theorem State.consume_millis (rest : List TraceEntry) : (s.consume rest).millis = s.millis := rfl
@[simp] theorem State.consume_curA (rest : List TraceEntry) : (s.consume rest).curA = s.curA := rfl
@[simp] theorem State.consume_curB (rest : List TraceEntry) : (s.consume rest).curB = s.curB := rfl
@[simp] theorem State.consume_prevA (rest : List TraceEntry) : (s.consume rest).prevA = s.prevA := rfl
@[simp] theorem State.consume_prevB (rest : List TraceEntry) : (s.consume rest).prevB = s.prevB := rfl
@[simp] theorem State.consume_pos (rest : List TraceEntry) : (s.consume rest).pos = s.pos := rfl
@[simp] theorem State.consume_sBtn (rest : List TraceEntry) : (s.consume rest).sBtn = s.sBtn := rfl
@[simp] theorem State.consume_sA (rest : List TraceEntry) : (s.consume rest).sA = s.sA := rfl
@[simp] theorem State.consume_sB (rest : List TraceEntry) : (s.consume rest).sB = s.sB := rfl
@[simp] theorem State.consume_tLatch (rest : List TraceEntry) : (s.consume rest).tLatch = s.tLatch := rfl
@[simp] theorem State.consume_seq (rest : List TraceEntry) : (s.consume rest).seq = s.seq := rfl
@[simp] theorem State.consume_gie (rest : List TraceEntry) : (s.consume rest).gie = s.gie := rfl
@[simp] theorem State.consume_irqPend (rest : List TraceEntry) : (s.consume rest).irqPend = s.irqPend := rfl
@[simp] theorem State.consume_tmrRun (rest : List TraceEntry) : (s.consume rest).tmrRun = s.tmrRun := rfl
@[simp] theorem State.consume_fault (rest : List TraceEntry) : (s.consume rest).fault = s.fault := rfl
@[simp] theorem State.consume_tx (rest : List TraceEntry) : (s.consume rest).tx = s.tx := rfl
@[simp] theorem State.consume_cfg (rest : List TraceEntry) : (s.consume rest).cfg = s.cfg := rfl
@[simp] theorem State.consume_trace (rest : List TraceEntry) : (s.consume rest).trace = rest := rfl
@[simp] theorem State.consume_eventNo (rest : List TraceEntry) : (s.consume rest).eventNo = s.eventNo + 1 := rfl

end Sys2Proof.Machine
end

