-- ==== Sys2Proof/Laws/Ops.lean ====
section
/-!
SUPPORT. Laws/Ops.lean: one lemma for each shared operation, saying everything it can do.
-/

namespace Sys2Proof.Machine

/-! Guards -/

/-- A guarded event answers a next state exactly when it is enabled and its effect does. -/
theorem guarded_eq_next_iff {m : String} {ok : Bool} {r : Result} {t : State} :
    guarded m ok r = .next t ↔ ok = true ∧ r = .next t := by
  cases ok <;> simp [guarded]

theorem guarded_of_enabled {m : String} {ok : Bool} (h : ok = true) (r : Result) : guarded m ok r = r := by
  simp [guarded, h]

theorem guarded_of_disabled {m : String} {ok : Bool} (h : ok = false) (r : Result) :
    guarded m ok r = .refused (.notEnabled m) := by
  simp [guarded, h]

@[simp] theorem atSeq_iff (s : State) (q : Seq) : atSeq s q = true ↔ s.seq = q := by simp [atSeq]

@[simp] theorem running_iff (s : State) : running s = true ↔ s.seq ≠ .halt := by simp [running]

@[simp] theorem edgeEnabled_iff (s : State) : edgeEnabled s = true ↔ s.tmrRun = true ∧ s.seq ≠ .halt := by
  simp [edgeEnabled]

@[simp] theorem tickEnabled_iff (s : State) :
    tickEnabled s = true ↔ (s.irqPend = true ∧ s.gie = true) ∧ s.seq ≠ .halt := by
  simp [tickEnabled]

/-! Latches -/

theorem latch_btn_of_some {s : State} {v : Bool} (h : s.sBtn = some v) : s.latch .btn = v := by
  simp [State.latch, h]

theorem latch_phA_of_some {s : State} {v : Bool} (h : s.sA = some v) : s.latch .phA = v := by
  simp [State.latch, h]

theorem latch_phB_of_some {s : State} {v : Bool} (h : s.sB = some v) : s.latch .phB = v := by
  simp [State.latch, h]

/-- The value of a latch depends on the latches and on the number of the event alone. -/
theorem latch_congr {s t : State} (hbtn : t.sBtn = s.sBtn) (ha : t.sA = s.sA) (hb : t.sB = s.sB)
    (hn : t.eventNo = s.eventNo) (l : Line) : t.latch l = s.latch l := by
  cases l <;> simp [State.latch, *]

/-- The decoder vector depends on the latches, the history and the number of the event alone. -/
theorem qVector_congr {s t : State} (hl : ∀ l, t.latch l = s.latch l) (hca : t.curA = s.curA) (hcb : t.curB = s.curB)
    (hpa : t.prevA = s.prevA) (hpb : t.prevB = s.prevB) : qVector t = qVector s := by
  simp [qVector, *]

/-! The clock -/

/-- The critical section returns MILLIS and leaves the whole state as it was (R56, R58). -/
theorem csRead_eq (s : State) : csRead s = (s.millis, s) := rfl

/-- The handler adds INC and clears IRQ_PEND; GIE is restored (R59 to R61). -/
theorem runHandler_eq (s : State) :
    runHandler s = { s with millis := (s.millis + s.cfg.inc) % 2 ^ s.cfg.wMs, irqPend := false } := rfl

theorem latchEdge_eq (s : State) : latchEdge s = { s with irqPend := true } := rfl

theorem addU_lt (n a b : Nat) : addU n a b < 2 ^ n := Nat.mod_lt _ (Nat.two_pow_pos n)

/-! Faults and the serial sink -/

/-- Taking a fatal error writes FAULT and SEQ and nothing else (R153). -/
theorem raise_eq (c : FatalCode) (s : State) : raise c s = { s with fault := c, seq := .halt } := rfl

theorem txWriteThen_ok (msg : List Byte) (k : Nat) (q : Seq) (s : State) :
    txWriteThen msg false k q s = { s with tx := s.tx ++ msg, seq := q } := rfl

theorem txWriteThen_fail (msg : List Byte) (k : Nat) (q : Seq) (s : State) :
    txWriteThen msg true k q s =
      { s with tx := s.tx ++ msg.take k, fault := .outputWriteFailure, seq := .halt } := rfl

/-- What REPORT does once enabled: T_LATCH, and behind the open gate one write of the status line (R126 to R128). -/
theorem reportBody_eq (fail : Bool) (k : Nat) (s : State) :
    reportBody fail k s =
      if s.millis % s.cfg.reportInterval = 0 then
        txWriteThen (statusLine s.cfg s.pos) fail k .shift { s with tLatch := some s.millis }
      else { s with tLatch := some s.millis, seq := .shift } := by
  by_cases h : s.millis % s.cfg.reportInterval = 0 <;> simp [reportBody, csRead_eq, gateOpen, h] <;> rfl

theorem writeAdmits_ok (msg : List Byte) (k : Nat) : writeAdmits msg false k = true := rfl

theorem reportAdmits_ok (s : State) (k : Nat) : reportAdmits s false k = true := rfl

/-! The position -/

/-- A step of POS answers a next state exactly when the overflow rule lets it, and then writes POS and SEQ. -/
theorem stepPos_eq_next_iff {d : Int} {s t : State} :
    stepPos d s = .next t ↔
      posFaults s.cfg (s.pos + d) = false ∧ t = { s with pos := wrapS s.cfg.wPos (s.pos + d), seq := .btnReset } := by
  unfold stepPos
  cases posFaults s.cfg (s.pos + d)
  · simp only [Bool.false_eq_true, if_false, Host.Outcome.next.injEq, true_and]
    exact eq_comm
  · simp

theorem posFaults_of_wrap {c : Config} (h : c.posOverflow = .wrap) (v : Int) : posFaults c v = false := by
  simp [posFaults, h]

/-- An outcome answers a next state with POS stepped by its count, or left (R122 to R124). -/
theorem applyOutcome_eq_next_iff {o : Instr} {s t : State} :
    applyOutcome o s = .next t ↔
      (countOf o = 0 ∧ t = { s with seq := .btnReset }) ∨
      (countOf o ≠ 0 ∧ posFaults s.cfg (s.pos + countOf o) = false ∧
        t = { s with pos := wrapS s.cfg.wPos (s.pos + countOf o), seq := .btnReset }) := by
  unfold applyOutcome
  split
  · next h =>
    simp only [h, Host.Outcome.next.injEq, true_and, ne_eq, not_true_eq_false, false_and, or_false]
    exact eq_comm
  · next h => simp [h, stepPos_eq_next_iff]

theorem countOf_decodeQ (q : QVec) :
    countOf (decodeQ q) = if q = 0x21 then -1 else if q = 0x12 then 1 else 0 := by
  unfold decodeQ
  split
  · rfl
  · split <;> rfl

/-- The vector is 0x21 exactly on the decrement pattern (R76, R122). -/
theorem qOf_eq_dec_iff (sa sb ca cb pa pb : Bool) :
    qOf sa sb ca cb pa pb = 0x21 ↔ (sa, sb, ca, cb, pa, pb) = (true, false, false, false, false, true) := by
  revert sa sb ca cb pa pb; decide

/-- The vector is 0x12 exactly on the increment pattern (R76, R123). -/
theorem qOf_eq_inc_iff (sa sb ca cb pa pb : Bool) :
    qOf sa sb ca cb pa pb = 0x12 ↔ (sa, sb, ca, cb, pa, pb) = (false, true, false, false, true, false) := by
  revert sa sb ca cb pa pb; decide

/-- The two patterns need a fresh pair that differs from the one-back pair, so a repeated sample counts nothing. -/
theorem countOf_same_pair (a b pa pb : Bool) : countOf (decodeQ (qOf a b a b pa pb)) = 0 := by
  revert a b pa pb; decide

/-! Traces and the step -/

/-- A run through a trace that begins with `i` performs `i` and goes on from its next state. -/
theorem runEvents_cons_eq_next_iff {i : Instr} {rest : List Instr} {s t : State} :
    runEvents (i :: rest) s = .next t ↔ ∃ u, exec i s = .next u ∧ runEvents rest u = .next t := by
  simp only [runEvents]
  cases exec i s <;> simp

/-- A run through two traces is a run through the second from where the first ends. -/
theorem runEvents_append_eq_next_iff {xs ys : List Instr} {s t : State} :
    runEvents (xs ++ ys) s = .next t ↔ ∃ u, runEvents xs s = .next u ∧ runEvents ys u = .next t := by
  induction xs generalizing s with
  | nil => simp [runEvents]
  | cons x xs ih =>
    simp only [List.cons_append, runEvents_cons_eq_next_iff, ih]
    exact ⟨fun ⟨u, hu, v, hv, hw⟩ => ⟨v, ⟨u, hu, hv⟩, hw⟩, fun ⟨v, ⟨u, hu, hv⟩, hw⟩ => ⟨u, hu, v, hv, hw⟩⟩

/-- An invariant that every event keeps holds at the end of every run. -/
theorem runEvents_keeps {P : State → Prop} (h : ∀ i s t, P s → exec i s = .next t → P t) {events : List Instr}
    {s t : State} (hs : P s) (hrun : runEvents events s = .next t) : P t := by
  induction events generalizing s with
  | nil => simp only [runEvents, Host.Outcome.next.injEq] at hrun; exact hrun ▸ hs
  | cons i rest ih =>
    obtain ⟨u, hu, hrest⟩ := runEvents_cons_eq_next_iff.mp hrun
    exact ih (h i s u hs hu) hrest

/-- An entry of the trace stands for an event exactly when its word decodes to it, or it is that failing write. -/
theorem readEntry_eq_ok_iff {e : TraceEntry} {i : Instr} :
    readEntry e = .ok i ↔
      (∃ w, e = .word w ∧ decode (.evt w) = .ok i) ∨ (∃ k, e = .greetFail k ∧ i = .greet true k) ∨
      ∃ k, e = .reportFail k ∧ i = .report true k := by
  cases e with
  | word w => cases h : decode (.evt w) <;> simp [readEntry, h]
  | greetFail k => simp [readEntry, eq_comm]
  | reportFail k => simp [readEntry, eq_comm]

/-- Taking an event succeeds exactly when the parameters are accepted and the next entry names the event. -/
theorem fetch_eq_ok_iff {s s' : State} {i : Instr} :
    fetch s = .ok (i, s') ↔
      configAccepted s.cfg = true ∧
        ∃ e rest, s.trace = e :: rest ∧ readEntry e = .ok i ∧ s' = s.consume rest := by
  constructor
  · intro h
    unfold fetch at h
    split at h
    · next hc =>
      refine ⟨hc, ?_⟩
      split at h
      · simp at h
      · next e rest ht =>
        split at h
        · next j hd =>
          obtain ⟨rfl, rfl⟩ := Prod.mk.inj (Except.ok.inj h)
          exact ⟨e, rest, ht, hd, rfl⟩
        · simp at h
    · simp at h
  · rintro ⟨hc, e, rest, ht, hd, rfl⟩
    simp [fetch, hc, ht, hd]

/-- A step that answers a next state took an entry of the trace and performed the event it names. -/
theorem step_eq_next_iff {s t : State} :
    step s = .next t ↔ ∃ i s', fetch s = .ok (i, s') ∧ exec i s' = .next t := by
  unfold step
  cases h : fetch s with
  | error r => simp
  | ok p => obtain ⟨i, s'⟩ := p; simp

end Sys2Proof.Machine
end

