-- ==== Sys2Proof/Laws/Exec.lean ====
section
/-!
SUPPORT. Laws/Exec.lean: everything an event can do when it answers a next state: one inversion lemma per meaning, and
all of them together as a relation with one constructor per way an event ends.
-/

namespace Sys2Proof.Machine

theorem execAcquire_next {u : Bool} {s t : State} (h : execAcquire u s = .next t) :
    s.seq = .acquire ∧
      t = if u then { s with fault := .peripheralUnavailable, seq := .halt } else { s with seq := .iocfg } := by
  simp only [execAcquire, guarded_eq_next_iff, atSeq_iff, Host.Outcome.next.injEq, raise_eq] at h
  exact ⟨h.1, h.2.symm⟩

theorem execIocfg_next {s t : State} (h : execIocfg s = .next t) :
    s.seq = .iocfg ∧ t = { s with seq := .clockInit } := by
  simp only [execIocfg, guarded_eq_next_iff, atSeq_iff, Host.Outcome.next.injEq] at h
  exact ⟨h.1, h.2.symm⟩

theorem execClockInit_next {s t : State} (h : execClockInit s = .next t) :
    s.seq = .clockInit ∧
      t = if s.cfg.prescaler ∈ s.cfg.supportedPrescalers then
        { s with millis := 0, tmrRun := true, seq := .irqEn } else { s with fault := .configError, seq := .halt } := by
  simp only [execClockInit, guarded_eq_next_iff, atSeq_iff, Host.Outcome.next.injEq, raise_eq, prescalerSupported,
    decide_eq_true_eq] at h
  exact ⟨h.1, h.2.symm⟩

theorem execIrqEn_next {s t : State} (h : execIrqEn s = .next t) :
    s.seq = .irqEn ∧ t = { s with gie := true, seq := .greet } := by
  simp only [execIrqEn, guarded_eq_next_iff, atSeq_iff, Host.Outcome.next.injEq] at h
  exact ⟨h.1, h.2.symm⟩

theorem execGreet_next {f : Bool} {k : Nat} {s t : State} (h : execGreet f k s = .next t) :
    s.seq = .greet ∧ writeAdmits s.cfg.greeting f k = true ∧ t = txWriteThen s.cfg.greeting f k .sample s := by
  simp only [execGreet, guarded_eq_next_iff, Bool.and_eq_true, atSeq_iff, Host.Outcome.next.injEq] at h
  exact ⟨h.1.1, h.1.2, h.2.symm⟩

theorem execSample_next {btn a b : Bool} {s t : State} (h : execSample btn a b s = .next t) :
    s.seq = .sample ∧ t = { s with sBtn := some btn, sA := some a, sB := some b, seq := .decode } := by
  simp only [execSample, guarded_eq_next_iff, atSeq_iff, Host.Outcome.next.injEq] at h
  exact ⟨h.1, h.2.symm⟩

theorem execDecode_next {s t : State} (h : execDecode s = .next t) :
    s.seq = .decode ∧ applyOutcome (decodeQ (qVector s)) s = .next t := by
  obtain ⟨hs, ho⟩ := guarded_eq_next_iff.mp h
  exact ⟨(atSeq_iff s _).mp hs, ho⟩

theorem execQdec_next {s t : State} (h : execQdec s = .next t) :
    (s.seq = .decode ∧ decodeQ (qVector s) = .qdec) ∧ applyOutcome .qdec s = .next t := by
  obtain ⟨hg, ho⟩ := guarded_eq_next_iff.mp h
  rw [Bool.and_eq_true, atSeq_iff] at hg
  exact ⟨⟨hg.1, of_decide_eq_true hg.2⟩, ho⟩

theorem execQinc_next {s t : State} (h : execQinc s = .next t) :
    (s.seq = .decode ∧ decodeQ (qVector s) = .qinc) ∧ applyOutcome .qinc s = .next t := by
  obtain ⟨hg, ho⟩ := guarded_eq_next_iff.mp h
  rw [Bool.and_eq_true, atSeq_iff] at hg
  exact ⟨⟨hg.1, of_decide_eq_true hg.2⟩, ho⟩

theorem execQnop_next {q : QVec} {s t : State} (h : execQnop q s = .next t) :
    (s.seq = .decode ∧ decodeQ (qVector s) = .qnop q) ∧ applyOutcome (.qnop q) s = .next t := by
  obtain ⟨hg, ho⟩ := guarded_eq_next_iff.mp h
  rw [Bool.and_eq_true, atSeq_iff] at hg
  exact ⟨⟨hg.1, of_decide_eq_true hg.2⟩, ho⟩

theorem execBtnReset_next {s t : State} (h : execBtnReset s = .next t) :
    s.seq = .btnReset ∧ t = { s with pos := if s.latch .btn then 0 else s.pos, seq := .report } := by
  simp only [execBtnReset, guarded_eq_next_iff, atSeq_iff, Host.Outcome.next.injEq] at h
  obtain ⟨hs, rfl⟩ := h
  exact ⟨hs, by cases s.latch .btn <;> rfl⟩

theorem execReport_next {f : Bool} {k : Nat} {s t : State} (h : execReport f k s = .next t) :
    s.seq = .report ∧ reportAdmits s f k = true ∧ t = reportBody f k s := by
  simp only [execReport, guarded_eq_next_iff, Bool.and_eq_true, atSeq_iff, Host.Outcome.next.injEq] at h
  exact ⟨h.1.1, h.1.2, h.2.symm⟩

theorem execShift_next {s t : State} (h : execShift s = .next t) :
    s.seq = .shift ∧
      t = if changed s then { s with curA := s.latch .phA, curB := s.latch .phB, prevA := s.curA, prevB := s.curB,
                                     seq := .sample } else { s with seq := .sample } := by
  simp only [execShift, guarded_eq_next_iff, atSeq_iff, Host.Outcome.next.injEq] at h
  obtain ⟨hs, rfl⟩ := h
  exact ⟨hs, by cases changed s <;> rfl⟩

theorem execCmpMatch_next {s t : State} (h : execCmpMatch s = .next t) :
    (s.tmrRun = true ∧ s.seq ≠ .halt) ∧ t = { s with irqPend := true } := by
  simp only [execCmpMatch, guarded_eq_next_iff, edgeEnabled_iff, Host.Outcome.next.injEq] at h
  exact ⟨h.1, h.2.symm⟩

theorem execTick_next {s t : State} (h : execTick s = .next t) :
    ((s.irqPend = true ∧ s.gie = true) ∧ s.seq ≠ .halt) ∧
      t = { s with millis := (s.millis + s.cfg.inc) % 2 ^ s.cfg.wMs, irqPend := false } := by
  simp only [execTick, guarded_eq_next_iff, tickEnabled_iff, Host.Outcome.next.injEq] at h
  exact ⟨h.1, h.2.symm⟩

theorem execNowMillis_next {s t : State} (h : execNowMillis s = .next t) :
    s.seq ≠ .halt ∧ t = { s with tLatch := some s.millis } := by
  simp only [execNowMillis, guarded_eq_next_iff, running_iff, Host.Outcome.next.injEq] at h
  exact ⟨h.1, h.2.symm⟩

/-- How an event that answers a next state changes the state: one constructor per way it ends. -/
inductive Effect (s : State) : Instr → State → Prop where
  | reset : Effect s .reset (resetBlock s)
  | acquired (hs : s.seq = .acquire) : Effect s (.acquire false) { s with seq := .iocfg }
  | unavailable (hs : s.seq = .acquire) :
      Effect s (.acquire true) { s with fault := .peripheralUnavailable, seq := .halt }
  | configured (hs : s.seq = .iocfg) : Effect s .iocfg { s with seq := .clockInit }
  | started (hs : s.seq = .clockInit) (hp : s.cfg.prescaler ∈ s.cfg.supportedPrescalers) :
      Effect s .clockInit { s with millis := 0, tmrRun := true, seq := .irqEn }
  | unsupported (hs : s.seq = .clockInit) (hp : s.cfg.prescaler ∉ s.cfg.supportedPrescalers) :
      Effect s .clockInit { s with fault := .configError, seq := .halt }
  | enabled (hs : s.seq = .irqEn) : Effect s .irqEn { s with gie := true, seq := .greet }
  | greeted (k : Nat) (hs : s.seq = .greet) :
      Effect s (.greet false k) { s with tx := s.tx ++ s.cfg.greeting, seq := .sample }
  | greetFailed (k : Nat) (hs : s.seq = .greet) (hk : k < s.cfg.greeting.length) :
      Effect s (.greet true k)
        { s with tx := s.tx ++ s.cfg.greeting.take k, fault := .outputWriteFailure, seq := .halt }
  | sampled (btn a b : Bool) (hs : s.seq = .sample) :
      Effect s (.sample btn a b) { s with sBtn := some btn, sA := some a, sB := some b, seq := .decode }
  | counted (i : Instr) (d : Int) (hi : i = .decode ∨ i = .qdec ∨ i = .qinc) (hs : s.seq = .decode)
      (hd : countOf (decodeQ (qVector s)) = d) (hd0 : d ≠ 0) (hf : posFaults s.cfg (s.pos + d) = false) :
      Effect s i { s with pos := wrapS s.cfg.wPos (s.pos + d), seq := .btnReset }
  | notCounted (i : Instr) (hi : i = .decode ∨ ∃ q, i = .qnop q) (hs : s.seq = .decode)
      (hd : countOf (decodeQ (qVector s)) = 0) : Effect s i { s with seq := .btnReset }
  | button (hs : s.seq = .btnReset) :
      Effect s .btnReset { s with pos := if s.latch .btn then 0 else s.pos, seq := .report }
  | quiet (k : Nat) (hs : s.seq = .report) (hg : s.millis % s.cfg.reportInterval ≠ 0) :
      Effect s (.report false k) { s with tLatch := some s.millis, seq := .shift }
  | reported (k : Nat) (hs : s.seq = .report) (hg : s.millis % s.cfg.reportInterval = 0) :
      Effect s (.report false k)
        { s with tLatch := some s.millis, tx := s.tx ++ statusLine s.cfg s.pos, seq := .shift }
  | reportFailed (k : Nat) (hs : s.seq = .report) (hg : s.millis % s.cfg.reportInterval = 0)
      (hk : k < (statusLine s.cfg s.pos).length) :
      Effect s (.report true k)
        { s with tLatch := some s.millis, tx := s.tx ++ (statusLine s.cfg s.pos).take k,
                 fault := .outputWriteFailure, seq := .halt }
  | shifted (hs : s.seq = .shift) (hc : changed s = true) :
      Effect s .shift { s with curA := s.latch .phA, curB := s.latch .phB, prevA := s.curA, prevB := s.curB,
                               seq := .sample }
  | kept (hs : s.seq = .shift) (hc : changed s = false) : Effect s .shift { s with seq := .sample }
  | edge (ht : s.tmrRun = true) (hs : s.seq ≠ .halt) : Effect s .cmpMatch { s with irqPend := true }
  | ticked (hp : s.irqPend = true) (hg : s.gie = true) (hs : s.seq ≠ .halt) :
      Effect s .tick { s with millis := (s.millis + s.cfg.inc) % 2 ^ s.cfg.wMs, irqPend := false }
  | probed (hs : s.seq ≠ .halt) : Effect s .nowMillis { s with tLatch := some s.millis }

/-- The outcome of a DECODE is one of the two effects on POS. -/
theorem effect_of_applyOutcome {s t : State} {i : Instr} (hs : s.seq = .decode)
    (hi : i = .decode ∨ i = decodeQ (qVector s)) (h : applyOutcome (decodeQ (qVector s)) s = .next t) :
    Effect s i t := by
  have hrow : decodeQ (qVector s) = .qdec ∨ decodeQ (qVector s) = .qinc ∨ ∃ q, decodeQ (qVector s) = .qnop q := by
    simp only [decodeQ]
    split
    · exact .inl rfl
    · split
      · exact .inr (.inl rfl)
      · exact .inr (.inr ⟨_, rfl⟩)
  rcases applyOutcome_eq_next_iff.mp h with ⟨h0, rfl⟩ | ⟨h0, hf, rfl⟩
  · refine .notCounted i ?_ hs h0
    rcases hi with hi | hi
    · exact .inl hi
    · rcases hrow with hq | hq | ⟨q, hq⟩ <;> rw [hq] at hi h0
      · exact absurd h0 (by decide)
      · exact absurd h0 (by decide)
      · exact .inr ⟨q, hi⟩
  · refine .counted i _ ?_ hs rfl h0 hf
    rcases hi with hi | hi
    · exact .inl hi
    · rcases hrow with hq | hq | ⟨q, hq⟩ <;> rw [hq] at hi h0
      · exact .inr (.inl hi)
      · exact .inr (.inr hi)
      · exact absurd rfl h0

/-- Everything an event can do: if exec answers a next state, the state changed in one of the ways of `Effect`. -/
theorem effect_of_exec {i : Instr} {s t : State} (h : exec i s = .next t) : Effect s i t := by
  cases i with
  | reset => cases h; exact .reset
  | acquire u =>
    obtain ⟨hs, rfl⟩ := execAcquire_next h
    cases u
    · exact .acquired hs
    · exact .unavailable hs
  | iocfg => obtain ⟨hs, rfl⟩ := execIocfg_next h; exact .configured hs
  | clockInit =>
    obtain ⟨hs, rfl⟩ := execClockInit_next h
    split
    · next hp => exact .started hs hp
    · next hp => exact .unsupported hs hp
  | irqEn => obtain ⟨hs, rfl⟩ := execIrqEn_next h; exact .enabled hs
  | greet f k =>
    obtain ⟨hs, hk, rfl⟩ := execGreet_next h
    cases f
    · exact .greeted k hs
    · exact .greetFailed k hs (by simpa [writeAdmits] using hk)
  | sample btn a b => obtain ⟨hs, rfl⟩ := execSample_next h; exact .sampled btn a b hs
  | decode => obtain ⟨hs, ho⟩ := execDecode_next h; exact effect_of_applyOutcome hs (.inl rfl) ho
  | btnReset => obtain ⟨hs, rfl⟩ := execBtnReset_next h; exact .button hs
  | report f k =>
    obtain ⟨hs, hk, rfl⟩ := execReport_next h
    rw [reportBody_eq]
    cases f
    · split
      · next hg => exact .reported k hs hg
      · next hg => exact .quiet k hs hg
    · obtain ⟨hg, hk⟩ : s.millis % s.cfg.reportInterval = 0 ∧ k < (statusLine s.cfg s.pos).length := by
        simpa [reportAdmits, writeAdmits, gateOpen] using hk
      rw [if_pos hg]
      exact .reportFailed k hs hg hk
  | shift =>
    obtain ⟨hs, rfl⟩ := execShift_next h
    split
    · next hc => exact .shifted hs hc
    · next hc => exact .kept hs (by simpa using hc)
  | cmpMatch => obtain ⟨⟨ht, hs⟩, rfl⟩ := execCmpMatch_next h; exact .edge ht hs
  | tick => obtain ⟨⟨⟨hp, hg⟩, hs⟩, rfl⟩ := execTick_next h; exact .ticked hp hg hs
  | nowMillis => obtain ⟨hs, rfl⟩ := execNowMillis_next h; exact .probed hs
  | qdec => obtain ⟨⟨hs, hq⟩, ho⟩ := execQdec_next h; exact effect_of_applyOutcome hs (.inr hq.symm) (hq ▸ ho)
  | qinc => obtain ⟨⟨hs, hq⟩, ho⟩ := execQinc_next h; exact effect_of_applyOutcome hs (.inr hq.symm) (hq ▸ ho)
  | qnop q => obtain ⟨⟨hs, hq⟩, ho⟩ := execQnop_next h; exact effect_of_applyOutcome hs (.inr hq.symm) (hq ▸ ho)

end Sys2Proof.Machine
end

