-- ==== Sys2Proof/Laws/PerInstr.lean ====
section
/-!
SUPPORT. Laws/PerInstr.lean: a statement about every instruction as syntax: the op field of an event's word is the code
of its row in 30_encoding.md R72, and an outcome of DECODE is no event word.
-/

namespace Sys2Proof

theorem opOf_eventWord (op : BitVec 4) (arg : EventArg) : opOf (eventWord op arg) = op := by
  simp only [opOf, eventWord, EventArg] at *
  ext i hi
  simp only [BitVec.getElem_extractLsb', BitVec.getLsbD_append]
  rw [if_neg (by omega), show 12 + i - 12 = i by omega, BitVec.getLsbD_eq_getElem hi]

namespace Laws.OpField

/-- What the encoder gives is an event word whose op field is the row's code, or a vector Q where the row has none. -/
def Statement (i : Instr) : Prop :=
  match encode i with
  | .evt w => opCode i = some (opOf w)
  | .q _ => opCode i = none

theorem reset : Statement .reset := (congrArg some (opOf_eventWord 0x0 0)).symm
theorem acquire (u : Bool) : Statement (.acquire u) := (congrArg some (opOf_eventWord 0x1 _)).symm
theorem iocfg : Statement .iocfg := (congrArg some (opOf_eventWord 0x2 0)).symm
theorem clockInit : Statement .clockInit := (congrArg some (opOf_eventWord 0x3 0)).symm
theorem irqEn : Statement .irqEn := (congrArg some (opOf_eventWord 0x4 0)).symm
theorem greet (f : Bool) (k : Nat) : Statement (.greet f k) := (congrArg some (opOf_eventWord 0x5 _)).symm
theorem sample (btn a b : Bool) : Statement (.sample btn a b) := (congrArg some (opOf_eventWord 0x6 _)).symm
theorem decode : Statement .decode := (congrArg some (opOf_eventWord 0x7 0)).symm
theorem btnReset : Statement .btnReset := (congrArg some (opOf_eventWord 0x8 0)).symm
theorem report (f : Bool) (k : Nat) : Statement (.report f k) := (congrArg some (opOf_eventWord 0x9 _)).symm
theorem shift : Statement .shift := (congrArg some (opOf_eventWord 0xA 0)).symm
theorem cmpMatch : Statement .cmpMatch := (congrArg some (opOf_eventWord 0xB 0)).symm
theorem tick : Statement .tick := (congrArg some (opOf_eventWord 0xC 0)).symm
theorem nowMillis : Statement .nowMillis := (congrArg some (opOf_eventWord 0xD 0)).symm
theorem qdec : Statement .qdec := rfl
theorem qinc : Statement .qinc := rfl
theorem qnop (q : QVec) : Statement (.qnop q) := rfl

end Laws.OpField

end Sys2Proof
end

