-- ==== Sys2Proof/Laws/Text.lean ====
section
/-!
SUPPORT. Laws/Text.lean: the decimal text: the fuel of `digits` suffices, whatever it is above the number's binary
length, and every byte is a digit.
-/

namespace Sys2Proof.Machine

theorem log2_div_ten_lt {m n : Nat} (h10 : 10 ≤ m) (h : m.log2 ≤ n + 1) : (m / 10).log2 ≤ n := by
  have hm : m < 2 ^ (n + 2) := (Nat.log2_lt (by omega)).mp (by omega)
  have hp : 2 ^ (n + 2) = 2 * 2 ^ (n + 1) := by rw [Nat.pow_succ]; omega
  have : m / 10 < 2 ^ (n + 1) := by omega
  have hne : m / 10 ≠ 0 := by omega
  have := (Nat.log2_lt hne).mpr this
  omega

/-- More fuel than the number has binary digits changes nothing. -/
theorem digitsFuel_eq {n k m : Nat} (hn : m.log2 ≤ n) (hk : m.log2 ≤ k) : digitsFuel n m = digitsFuel k m := by
  induction n generalizing k m with
  | zero =>
    have hm : m < 10 := by
      by_contra h
      have := (Nat.le_log2 (k := 3) (n := m) (by omega)).mpr (by omega)
      omega
    cases k with
    | zero => rfl
    | succ k => simp [digitsFuel, hm, Nat.mod_eq_of_lt hm]
  | succ n ih =>
    cases k with
    | zero =>
      have hm : m < 10 := by
        by_contra h
        have := (Nat.le_log2 (k := 3) (n := m) (by omega)).mpr (by omega)
        omega
      simp [digitsFuel, hm, Nat.mod_eq_of_lt hm]
    | succ k =>
      by_cases h : m < 10
      · simp [digitsFuel, h]
      · simp only [digitsFuel, h, if_false]
        rw [ih (log2_div_ten_lt (by omega) hn) (log2_div_ten_lt (by omega) hk)]

/-- Every byte of a decimal text is one of `0` to `9`. -/
theorem digitsFuel_bytes {n m : Nat} {b : Byte} (h : b ∈ digitsFuel n m) : ∃ d, d < 10 ∧ b = digitByte d := by
  induction n generalizing m with
  | zero => exact ⟨m % 10, Nat.mod_lt _ (by omega), by simpa [digitsFuel] using h⟩
  | succ n ih =>
    by_cases hm : m < 10
    · exact ⟨m, hm, by simpa [digitsFuel, hm] using h⟩
    · simp only [digitsFuel, hm, if_false, List.mem_append, List.mem_singleton] at h
      rcases h with h | h
      · exact ih h
      · exact ⟨m % 10, Nat.mod_lt _ (by omega), h⟩

end Sys2Proof.Machine
end

