-- ==== Sys2Proof/Tests/Slice0.lean ====
section
/-!
SUPPORT. Tests/Slice0.lean: the model's own tests, expected results from 95_test_vectors.md and the examples of the
rules, and a witness for the hypotheses of every statement of Certificates/Slice0/Obligations.lean.
-/

namespace Sys2Proof.Tests

open Sys2Proof Sys2Proof.Machine Sys2Proof.Safety

/-! Helpers -/

/-- The reference configuration with the greeting of 95_test_vectors.md, the one byte 0x47. -/
def refCfg : Config := { Config.reference with greeting := [0x47] }

/-- State B0 of 95_test_vectors.md. -/
def b0 : State := { State.reset with cfg := refCfg, seq := .sample, gie := true, tmrRun := true, tx := [0x47] }

/-- State B0 inside an iteration that sampled three low lines, SEQ at `q`. -/
def b0At (q : Machine.Seq) : State := { b0 with seq := q, sBtn := some false, sA := some false, sB := some false }

/-- The state after RESET under the test configuration, SEQ at `q`. -/
def bootAt (q : Machine.Seq) : State := { State.reset with cfg := refCfg, seq := q }

/-- A DECODE with fresh pair, one-back pair, two-back pair and position. -/
def decoding (a b ca cb pa pb : Bool) (pos : Int) : State :=
  { b0At .decode with sA := some a, sB := some b, curA := ca, curB := cb, prevA := pa, prevB := pb, pos := pos }

/-- The same under POS_OVERFLOW = fault. -/
def decodingFault (a b ca cb pa pb : Bool) (pos : Int) : State :=
  { decoding a b ca cb pa pb pos with cfg := { refCfg with posOverflow := .fault } }

/-- A configuration with an unsupported prescaler (V-CLK-1, second case, its numbers made exact). -/
def badPrescaler : Config := { refCfg with prescaler := 32, compareValue := 4000 }

/-- A field of the next state, where there is one. -/
def after {α : Type} (r : Result) (f : State → α) : Option α :=
  match r with
  | .next t => some (f t)
  | .fault _ => none
  | .refused _ => none

/-- Why an answer stops. -/
def refusal (r : Result) : Option Refusal :=
  match r with
  | .refused why => some why
  | .fault _ => none
  | .next _ => none

/-- The decoder's answer as a value that decide can compare. -/
def decoded (w : EventWord) : Option Instr := (decode (.evt w)).toOption

/-! WellFormed: a term for each check, which the check refuses -/

theorem test_illFormed_greet : Instr.wellFormed (.greet false 5) = false := by decide
theorem test_illFormed_report : Instr.wellFormed (.report false 1) = false := by decide
theorem test_illFormed_qnop_dec : Instr.wellFormed (.qnop 0x21) = false := by decide
theorem test_illFormed_qnop_inc : Instr.wellFormed (.qnop 0x12) = false := by decide
theorem test_illFormed_wide_count : Instr.wellFormed (.greet true 2048) = false := by decide
theorem test_wellFormed_report : Instr.wellFormed (.report true 39) = true := by decide

/-! Decode: a word written out from R71 to R73 (V-ENC-1) or R76 for every constructor -/

theorem test_decode_reset : decoded 0b0000000000000000 = some .reset := by decide
theorem test_decode_acquire : decoded 0b0001000000000001 = some (.acquire true) := by decide
theorem test_decode_iocfg : decoded 0b0010000000000000 = some .iocfg := by decide
theorem test_decode_clockInit : decoded 0b0011000000000000 = some .clockInit := by decide
theorem test_decode_irqEn : decoded 0b0100000000000000 = some .irqEn := by decide
theorem test_decode_greet : decoded 0b0101100000000010 = some (.greet true 2) := by decide
theorem test_decode_sample : decoded 0b0110000000000110 = some (.sample true true false) := by decide
theorem test_decode_decode : decoded 0b0111000000000000 = some .decode := by decide
theorem test_decode_btnReset : decoded 0b1000000000000000 = some .btnReset := by decide
theorem test_decode_report : decoded 0b1001100000011110 = some (.report true 30) := by decide
theorem test_decode_shift : decoded 0b1010000000000000 = some .shift := by decide
theorem test_decode_cmpMatch : decoded 0b1011000000000000 = some .cmpMatch := by decide
theorem test_decode_tick : decoded 0b1100000000000000 = some .tick := by decide
theorem test_decode_nowMillis : decoded 0b1101000000000000 = some .nowMillis := by decide
theorem test_decode_qdec : decodeTableWord 8 0b100001 = some .qdec := by decide
theorem test_decode_qinc : decodeTableWord 8 0b010010 = some .qinc := by decide
theorem test_decode_qnop : decodeTableWord 8 0b111000 = some (.qnop 0b111000) := by decide

/-- The refused words of V-ENC-2. -/
theorem test_decode_refuses :
    [0xE000, 0xF000, 0xFFFF, 0x6008, 0x7001, 0x1002, 0x9001, 0x5005, 0x0001].map decoded =
      [none, none, none, none, none, none, none, none, none] := by decide

/-- No two rows of the opcode table overlap. -/
theorem test_rows_disjoint :
    eventRows.Pairwise (fun r q => r.pattern &&& (r.mask &&& q.mask) ≠ q.pattern &&& (r.mask &&& q.mask)) := by decide

/-! The host's placing of a word: each row of the table runs as the first event after reset -/

/-- The step after placing a row's word at reset answers a next state. -/
def runsFirst (nbits w : Nat) : Bool := (after (step (State.reset.withFetchWord nbits w)) (fun _ => true)).getD false

theorem test_rows_run_first :
    ([0x0000, 0x1000, 0x2000, 0x3000, 0x4000, 0x5000, 0x6000, 0x7000, 0x8000, 0x9000, 0xA000, 0xB000, 0xC000, 0xD000].all
      (runsFirst 16) && [0x21, 0x12, 0x00, 0x3F].all (runsFirst 8)) = true := by decide

/-- Lengths that are no format encode nothing and place nothing (log entry 28). -/
theorem test_no_format :
    [9, 15, 17, 5].map (tableEncoding · 0x21) = [none, none, none, none] ∧ tableEncoding 8 0x40 = none ∧
      (State.reset.withFetchWord 12 0x21).trace = [] := by decide

/-- A greeting whose write fails after 2500 bytes (R53), as no event word can say. -/
theorem test_greet_fails_after_2500 (g : List Byte) (h : 2500 < g.length) :
    readEntry (.greetFail 2500) = .ok (.greet true 2500) ∧
      after (exec (.greet true 2500) { bootAt .greet with cfg := { refCfg with greeting := g } }) (fun t => (t.tx, t.seq)) =
        some (g.take 2500, .halt) := by
  refine ⟨rfl, ?_⟩
  rw [show exec (.greet true 2500) _ = execGreet true 2500 _ from rfl, execGreet,
    guarded_of_enabled (by simpa [atSeq, bootAt, writeAdmits] using h)]
  rfl

/-! The events, at most two tests each -/

theorem test_reset_leaves_halt :
    after (exec .reset { b0At .halt with millis := 8, pos := 5, fault := .outputWriteFailure })
      (fun t => (t.millis, t.pos, t.seq, t.fault, t.tx)) = some (0, 0, .acquire, .none, []) := by decide

/-- V-FLT-1. -/
theorem test_acquire_unavail :
    after (exec (.acquire true) (bootAt .acquire)) (fun t => (t.fault.code, t.seq, t.tmrRun)) = some (2, .halt, false) := by
  decide

theorem test_iocfg : after (exec .iocfg (bootAt .iocfg)) (·.seq) = some .clockInit := by decide

/-- V-CLK-1, both cases. -/
theorem test_clockInit :
    after (exec .clockInit (bootAt .clockInit)) (fun t => (t.millis, t.tmrRun, t.gie, t.seq)) =
      some (0, true, false, .irqEn) := by decide
theorem test_clockInit_unsupported :
    after (exec .clockInit { bootAt .clockInit with cfg := badPrescaler }) (fun t => (t.fault.code, t.seq, t.tmrRun)) =
      some (1, .halt, false) := by decide

/-- V-CLK-2. -/
theorem test_irqEn_with_pending :
    after (runEvents [.irqEn, .tick] { bootAt .irqEn with tmrRun := true, irqPend := true })
      (fun t => (t.millis, t.irqPend, t.gie)) = some (8, false, true) := by decide

/-- V-FLT-3. -/
theorem test_greet_fails_after_two :
    after (exec (.greet true 2) { bootAt .greet with cfg := { refCfg with greeting := [0x48, 0x69, 0x0D] } })
      (fun t => (t.tx, t.fault.code, t.seq)) = some ([0x48, 0x69], 3, .halt) := by decide
theorem test_greet_empty_cannot_fail :
    refusal (exec (.greet true 0) { bootAt .greet with cfg := { refCfg with greeting := [] } }) =
      some (.notEnabled "GREET") := by decide

/-- The example of R120. -/
theorem test_sample :
    after (exec (.sample false true false) b0) (fun t => (t.sBtn, t.sA, t.sB)) = some (some false, some true, some false) := by
  decide

/-- V-SRC-4. -/
theorem test_decode_counts_down :
    after (exec .decode (decoding true false false false false true 5)) (·.pos) = some 4 := by decide
/-- V-SRC-5: right fresh and two-back pairs, wrong one-back pair. -/
theorem test_decode_other : after (exec .decode (decoding false true true true true false 7)) (·.pos) = some 7 := by decide

/-- V-DEC-4. -/
theorem test_qdec_wraps :
    after (exec .qdec (decoding true false false false false true (-2147483648))) (·.pos) = some 2147483647 := by decide
theorem test_qdec_not_its_vector :
    refusal (exec .qdec (decoding false true false false true false 5)) = some (.notEnabled "QDEC") := by decide
theorem test_qinc_wraps :
    after (exec .qinc (decoding false true false false true false 2147483647)) (·.pos) = some (-2147483648) := by decide
theorem test_qnop_bounce :
    after (exec (.qnop 0x22) (decoding true false false false true false 7)) (fun t => (t.pos, t.seq)) =
      some (7, .btnReset) := by decide

/-- V-BTN-1 and V-BTN-2. -/
theorem test_btnReset_high :
    after (exec .btnReset { b0At .btnReset with sBtn := some true, pos := -3 }) (·.pos) = some 0 := by decide
theorem test_btnReset_low : after (exec .btnReset { b0At .btnReset with pos := -3 }) (·.pos) = some (-3) := by decide

/-- The example of R126: MILLIS = 40 writes the 41 bytes of StatusLine(-1). -/
theorem test_report_open :
    after (exec (.report false 0) { b0At .report with millis := 40, pos := -1 }) (fun t => (t.tx.length, t.tLatch)) =
      some (42, some 40) := by decide
/-- P4: the write fails after 30 bytes. -/
theorem test_report_fails :
    after (exec (.report true 30) (b0At .report)) (fun t => (t.tx.drop 29, t.fault.code, t.seq)) =
      some ([0x0D, 0x63], 3, .halt) := by decide

/-- V-SHF-4 and V-SHF-2. -/
theorem test_shift_both_change :
    after (exec .shift { b0At .shift with sA := some true, curB := true })
      (fun t => (t.curA, t.curB, t.prevA, t.prevB)) = some (true, false, false, true) := by decide
theorem test_shift_no_change :
    after (exec .shift { b0At .shift with sA := some true, curA := true })
      (fun t => (t.curA, t.curB, t.prevA, t.prevB)) = some (true, false, false, false) := by decide

/-- V-CLK-3. -/
theorem test_cmpMatch_absorbed :
    after (runEvents [.cmpMatch, .cmpMatch, .cmpMatch, .tick] b0) (fun t => (t.millis, t.irqPend)) = some (8, false) := by
  decide
theorem test_cmpMatch_before_clockInit : refusal (exec .cmpMatch (bootAt .acquire)) = some (.notEnabled "CMP_MATCH") := by
  decide

/-- V-CLK-4. -/
theorem test_tick_wraps :
    after (exec .tick { b0 with millis := 0xFFFFFFF8, irqPend := true }) (·.millis) = some 0 := by decide
theorem test_tick_narrow :
    after (exec .tick { b0 with millis := 254, irqPend := true, cfg := { refCfg with wMs := 8, inc := 3 } }) (·.millis) =
      some 1 := by decide

/-- V-CLK-5: with an edge pending the probe returns the pre-increment value and leaves the edge. -/
theorem test_nowMillis :
    after (exec .nowMillis { b0 with millis := 40, irqPend := true }) (fun t => (t.tLatch, t.irqPend, t.gie)) =
      some (some 40, true, true) := by decide

/-! Text, traces, configuration, part-reads -/

/-- V-SRC-9: the 40 bytes of the status line of 0. -/
theorem test_statusLine_zero :
    statusLine refCfg 0 =
      List.replicate 28 0x20 ++ [0x0D, 0x63, 0x6F, 0x75, 0x6E, 0x74, 0x65, 0x72, 0x3A, 0x20, 0x30, 0x0D] := by decide

/-- V-ENC-4. -/
theorem test_decText_least :
    decText (-2147483648) = [0x2D, 0x32, 0x31, 0x34, 0x37, 0x34, 0x38, 0x33, 0x36, 0x34, 0x38] := by decide

/-- R85: a line with a comment. -/
theorem test_parseLine : parseLine "REPORT fail@30 ; the write stops" = some (.report true 30) := by decide

/-- V-CLK-1: PRESCALER = 64, COMPARE_VALUE = 125 needs INC = 0.5 and is refused; COMPARE_VALUE = 250, INC = 1 is not. -/
theorem test_config_refused :
    refusal (step { b0 with cfg := { refCfg with prescaler := 64 }, trace := [.word 0x6000] }) = some .configRefused := by decide
theorem test_config_accepted :
    configAccepted { refCfg with prescaler := 64, compareValue := 250, inc := 1 } = true := by decide

/-- V-CLK-7: the masked read in two bytes gives 248, the unmasked one the torn 504. -/
theorem test_torn_read :
    (maskedRead 8 [true, false] { b0 with millis := 0x00F8, cfg := { refCfg with wMs := 16 } }).1 = 248 ∧
      (unmaskedRead 8 [true, false] { b0 with millis := 0x00F8, cfg := { refCfg with wMs := 16 } }).1 = 504 := by decide

/-- V-ENC-2: refused by enabledness, with the words of P1's start. -/
theorem test_wellFormedTrace :
    wellFormedTrace [.word 0x0000, .word 0x1000, .word 0x2000, .word 0x3000, .word 0x4000, .word 0x5000, .word 0x6004, .word 0x7000] b0 = true ∧
      wellFormedTrace [.word 0xC000] b0 = false ∧ wellFormedTrace [.word 0x7000] b0 = false := by decide

/-! Witnesses: hypotheses of the statements, met together by concrete states -/

theorem witness_DecodeOfEncode : Instr.wellFormed (.report true 2047) = true := by decide
theorem witness_EncodeOfDecode :
    decode (.evt 0x57FF) = .error .countWithoutFail ∧ decode (.evt 0x5FFF) = .ok (.greet true 2047) := ⟨rfl, rfl⟩
theorem witness_AcceptedWords :
    decodeWord 0x6007 = .ok (.sample true true true) ∧ decodeWord 0x6008 = .error .strayArg ∧
      decodeWord 0x9001 = .error .countWithoutFail := ⟨rfl, rfl, rfl⟩

/-- A word for each clause of MalformedWordsAreRefused. -/
theorem witness_MalformedWords :
    opOf 0xE000 = 0xE ∧ opOf 0xFFFF = 0xF ∧ (opOf 0x7001 = 0x7 ∧ argOf 0x7001 ≠ 0) ∧
    (opOf 0x1002 = 0x1 ∧ (argOf 0x1002).extractLsb' 1 11 ≠ 0) ∧
    (opOf 0x6008 = 0x6 ∧ (argOf 0x6008).extractLsb' 3 9 ≠ 0) ∧
    (opOf 0x9001 = 0x9 ∧ (argOf 0x9001).getLsbD 11 = false ∧ (argOf 0x9001).extractLsb' 0 11 ≠ 0) ∧
    configAccepted refCfg = true := by decide
theorem witness_MalformedWords_step :
    ({ b0 with trace := [.word 0xE000] } : State).trace = [.word 0xE000] ∧ decodeWord 0xE000 = .error .reservedOp := ⟨rfl, rfl⟩
theorem witness_TraceLines : Instr.wellFormed (.greet true 1999) = true ∧ traceLine (.greet true 1999) = some "GREET fail@1999" := by
  decide
theorem witness_StepRuns :
    configAccepted ({ b0 with trace := [.word 0x6004, .word 0x7000] } : State).cfg = true ∧
      ({ b0 with trace := [.word 0x6004, .word 0x7000] } : State).trace = .word 0x6004 :: [.word 0x7000] ∧
      decode (.evt 0x6004) = .ok (.sample true false false) := ⟨by decide, rfl, rfl⟩
theorem witness_StepRuns_wide :
    configAccepted refCfg = true ∧ ({ b0 with trace := [.greetFail 2500] } : State).trace = .greetFail 2500 :: [] ∧
      ({ b0 with trace := [.reportFail 2500] } : State).trace = .reportFail 2500 :: [] := ⟨by decide, rfl, rfl⟩
theorem witness_Rejected : configAccepted State.reset.cfg = true ∧ State.reset.trace = [] := by decide

/-- An event of each agent enabled and one not. -/
theorem witness_EventsRun :
    b0.cfg.posOverflow = .wrap ∧ enabled .reset b0 = true ∧ enabled (.sample true true true) b0 = true ∧
    enabled .cmpMatch b0 = true ∧ enabled .nowMillis b0 = true ∧ enabled .tick { b0 with irqPend := true } = true ∧
    enabled (.report true 39) (b0At .report) = true ∧ enabled (.report true 40) (b0At .report) = false ∧
    enabled (.qnop 0) (b0At .decode) = true ∧ enabled .tick b0 = false := by decide
theorem witness_WellFormedTraces :
    configAccepted ({ b0 with trace := [.word 0x6004, .word 0x7000] } : State).cfg = true ∧ b0.cfg.posOverflow = .wrap ∧
    wellFormedTrace [.word 0x6004, .word 0x7000] b0 = true ∧ wellFormedTrace [.word 0x6004, .word 0x6004] b0 = false ∧
    wellFormedTrace [.word 0xE000] b0 = false := by decide
theorem witness_Parameters :
    (∃ t, exec .tick { b0 with irqPend := true } = .next t) ∧ ∃ t, step { b0 with trace := [.word 0xB000] } = .next t :=
  ⟨⟨_, rfl⟩, ⟨_, rfl⟩⟩
theorem witness_Acquire :
    (bootAt .acquire).seq = .acquire ∧ b0.seq ≠ .acquire ∧ ∃ t, exec (.acquire true) (bootAt .acquire) = .next t :=
  ⟨rfl, by decide, ⟨_, rfl⟩⟩
theorem witness_Iocfg : (bootAt .iocfg).seq = .iocfg ∧ b0.seq ≠ .iocfg := by decide
theorem witness_ClockInit :
    (bootAt .clockInit).seq = .clockInit ∧ refCfg.prescaler ∈ refCfg.supportedPrescalers ∧
    badPrescaler.prescaler ∉ badPrescaler.supportedPrescalers ∧ configAccepted badPrescaler = true ∧
    b0.seq ≠ .clockInit := by decide

/-- The invariant holds of a state before CLOCK_INIT, where two statements assume it. -/
theorem witness_BlockInv_boot : BlockInv (bootAt .clockInit) where
  config := by decide
  millisRange := by decide
  millisLattice := by decide
  posRange := by decide
  latchRange := by intro t h; cases h
  faultIffHalt := by decide
  latchesWritten := by decide
  historyDistinct := by decide
  bootQuiet := by decide
  bootMasked := by decide
  loopEnabled := by decide
  armed := by decide
  bootClean := by decide

/-- The invariant holds of a state inside the loop, a step away from another. -/
theorem witness_EveryStep :
    BlockInv { b0 with millis := 8, trace := [.word 0x6004] } ∧ ∃ t, step { b0 with millis := 8, trace := [.word 0x6004] } = .next t where
  left :=
    { config := by decide
      millisRange := by decide
      millisLattice := by decide
      posRange := by decide
      latchRange := by intro t h; cases h
      faultIffHalt := by decide
      latchesWritten := by decide
      historyDistinct := by decide
      bootQuiet := by decide
      bootMasked := by decide
      loopEnabled := by decide
      armed := by decide
      bootClean := by decide }
  right := ⟨_, rfl⟩

theorem witness_IrqEn :
    (bootAt .irqEn).seq = .irqEn ∧ ({ bootAt .irqEn with irqPend := true } : State).irqPend = true ∧ b0.seq ≠ .irqEn ∧
    (∃ t, exec .irqEn (bootAt .irqEn) = .next t ∧ (bootAt .irqEn).gie = false ∧ t.gie = true) ∧
    (∃ t, runEvents (.reset :: [.acquire false, .iocfg, .clockInit, .cmpMatch]) b0 = .next t) ∧
    Instr.irqEn ∉ [Instr.acquire false, .iocfg, .clockInit, .cmpMatch] :=
  ⟨rfl, rfl, by decide, ⟨_, rfl, rfl, rfl⟩, ⟨_, rfl⟩, by decide⟩
theorem witness_Greet :
    (bootAt .greet).seq = .greet ∧ 0 < (bootAt .greet).cfg.greeting.length ∧
    (bootAt .greet).cfg.greeting.length ≤ 1 ∧ b0.seq ≠ .greet ∧
    (∃ t, exec .irqEn (bootAt .irqEn) = .next t ∧ t.seq = .greet) := ⟨rfl, by decide, by decide, by decide, ⟨_, rfl, rfl⟩⟩
/-- A run with one GREET from the boot, and one from the loop. -/
theorem witness_Greet_runs :
    (∃ t, runEvents [.greet false 0, .sample true true true] (bootAt .greet) = .next t) ∧
    Instr.reset ∉ [Instr.greet false 0, .sample true true true] ∧
    [Instr.greet false 0, .sample true true true].countP isGreet = 1 ∧
    (∃ t, runEvents [.sample true true true] b0 = .next t) ∧ inBoot b0.seq = false ∧
    (∃ t, exec .irqEn (bootAt .irqEn) = .next t ∧ Instr.irqEn ≠ .reset ∧ inBoot t.seq = true) :=
  ⟨⟨_, rfl⟩, by decide, by decide, ⟨_, rfl⟩, by decide, ⟨_, rfl, by decide, by decide⟩⟩
theorem witness_Boot : b0.cfg.prescaler ∈ b0.cfg.supportedPrescalers := by decide
theorem witness_CmpMatch :
    b0.tmrRun = true ∧ b0.seq ≠ .halt ∧ ({ b0 with irqPend := true } : State).irqPend = true ∧
    (bootAt .acquire).tmrRun = false ∧ (b0At .halt).seq = .halt := by decide
theorem witness_Tick :
    (let s : State := { b0 with irqPend := true, millis := 2 ^ 32 - 8 }
     s.irqPend = true ∧ s.gie = true ∧ s.seq ≠ .halt ∧ s.cfg.inc < 2 ^ s.cfg.wMs ∧ s.millis = 2 ^ s.cfg.wMs - 8 ∧
       8 ≤ s.cfg.inc ∧ ∃ t, exec .tick s = .next t) ∧ b0.irqPend = false ∧ (bootAt .acquire).gie = false :=
  ⟨⟨rfl, rfl, by decide, by decide, by decide, by decide, ⟨_, rfl⟩⟩, rfl, rfl⟩
theorem witness_NowMillis : b0.seq ≠ .halt ∧ (b0At .halt).seq = .halt := by decide
theorem witness_NowMillisTwice :
    ∃ t, Instr.tick ∉ [Instr.cmpMatch, .sample true false true] ∧
      Instr.clockInit ∉ [Instr.cmpMatch, .sample true false true] ∧
      Instr.reset ∉ [Instr.cmpMatch, .sample true false true] ∧
      runEvents (.nowMillis :: [.cmpMatch, .sample true false true] ++ [.nowMillis]) b0 = .next t :=
  ⟨_, by decide, by decide, by decide, rfl⟩
theorem witness_NowMillisZero :
    ∃ t, Instr.tick ∉ [Instr.acquire false, .iocfg] ∧
      runEvents (.reset :: [.acquire false, .iocfg] ++ [.nowMillis]) b0 = .next t := ⟨_, by decide, rfl⟩
theorem witness_CriticalSection : b0.tmrRun = true ∧ b0.seq ≠ .halt := by decide
theorem witness_ReadsSee : enabled .tick { b0 with irqPend := true } = true := by decide
theorem witness_CounterCounts :
    ∃ s0 t, exec .clockInit (bootAt .clockInit) = .next s0 ∧ s0.seq ≠ .halt ∧
      Instr.reset ∉ [Instr.irqEn, .cmpMatch, .tick] ∧ runEvents [.irqEn, .cmpMatch, .tick] s0 = .next t :=
  ⟨_, _, rfl, by decide, by decide, rfl⟩
theorem witness_Ring :
    b0.tmrRun = true ∧ b0.gie = true ∧ b0.seq ≠ .halt ∧ b0.millis < 2 ^ b0.cfg.wMs ∧
    536870912 * b0.cfg.inc = 2 ^ b0.cfg.wMs := by decide
theorem witness_Pending :
    (∃ t, exec .cmpMatch b0 = .next t) ∧ (∃ t, exec .tick { b0 with irqPend := true } = .next t) ∧
    (∃ t, exec .reset b0 = .next t) ∧ ∃ t, exec .nowMillis b0 = .next t := ⟨⟨_, rfl⟩, ⟨_, rfl⟩, ⟨_, rfl⟩, ⟨_, rfl⟩⟩
theorem witness_Enables :
    (∃ t, exec .reset b0 = .next t ∧ b0.gie = true ∧ t.gie = false ∧ b0.tmrRun = true ∧ t.tmrRun = false) ∧
    ∃ t, exec .clockInit (bootAt .clockInit) = .next t ∧ (bootAt .clockInit).tmrRun = false ∧ t.tmrRun = true :=
  ⟨⟨_, rfl, rfl, rfl, rfl, rfl⟩, ⟨_, rfl, rfl, rfl⟩⟩
theorem witness_Commutes :
    ∃ t, t.seq ≠ .halt ∧ runEvents [.tick, .sample true false true] { b0 with irqPend := true } = .next t ∧
      runEvents [.sample true false true, .tick] { b0 with irqPend := true } = .next t := ⟨_, by decide, rfl, rfl⟩
theorem witness_Masked : ({ b0 with millis := 0xFFF8 } : State).millis < 2 ^ (8 * [true, true].length) := by decide

/-- An infinite run of edges and ticks: event 2m an edge, event 2m + 1 its tick. -/
def tickEventAt (n : Nat) : Instr := if n % 2 = 0 then .cmpMatch else .tick
/-- Its states. -/
def tickState (n : Nat) : State :=
  { b0 with millis := n / 2 * 8 % 2 ^ 32, irqPend := decide (n % 2 = 1) }

theorem tickState_run : InfiniteRun tickEventAt tickState := by
  intro n
  rcases Nat.mod_two_eq_zero_or_one n with h | h
  · have h1 : (n + 1) % 2 = 1 := by omega
    have h2 : (n + 1) / 2 = n / 2 := by omega
    simp only [tickEventAt, h, if_true, tickState, h1, h2]
    rfl
  · have h1 : (n + 1) % 2 = 0 := by omega
    have h2 : (n + 1) / 2 = n / 2 + 1 := by omega
    simp only [tickEventAt, h, tickState, h1, h2]
    have h3 : (n / 2 + 1) * 8 % 2 ^ 32 = (n / 2 * 8 % 2 ^ 32 + 8) % 2 ^ 32 := by omega
    rw [h3]
    rfl

theorem witness_FairRuns :
    InfiniteRun tickEventAt tickState ∧ (∀ n, (tickState n).seq ≠ .halt) ∧ (∀ n, tickEventAt n ≠ .reset) ∧
    TimerFair tickEventAt tickState ∧ HandlerFair tickEventAt tickState ∧
    ∃ n, (tickState n).gie = true ∧ (tickState n).tmrRun = true := by
  refine ⟨tickState_run, fun n => (fun h => nomatch h), fun n => ?_, fun _ n => ⟨2 * n, by omega, ?_⟩,
    fun n _ => ⟨2 * n + 1, by omega, ?_⟩, 0, rfl, rfl⟩
  · unfold tickEventAt; split <;> exact fun h => by cases h
  · simp [tickEventAt]
  · have : (2 * n + 1) % 2 = 1 := by omega
    simp [tickEventAt, this]

/-- An infinite run of iterations with the button line high, the report gate closed. -/
def loopEventAt (n : Nat) : Instr :=
  match n % 5 with
  | 0 => .sample true false false
  | 1 => .decode
  | 2 => .btnReset
  | 3 => .report false 0
  | _ => .shift
/-- The step of the sequence before its event `n`. -/
def loopSeq (n : Nat) : Machine.Seq :=
  match n % 5 with
  | 0 => .sample
  | 1 => .decode
  | 2 => .btnReset
  | 3 => .report
  | _ => .shift
/-- Its states. -/
def loopState (n : Nat) : State :=
  { b0 with millis := 8, tLatch := some 8, sBtn := some true, sA := some false, sB := some false, seq := loopSeq n }

theorem witness_Iterates :
    InfiniteRun loopEventAt loopState ∧ (∀ n, (loopState n).seq ≠ .halt) ∧ (∀ n, loopEventAt n ≠ .reset) ∧
    MainScheduled loopEventAt := by
  have five : ∀ n, n % 5 = 0 ∨ n % 5 = 1 ∨ n % 5 = 2 ∨ n % 5 = 3 ∨ n % 5 = 4 := by intro n; omega
  refine ⟨fun n => ?_, fun n => ?_, fun n => ?_, fun n => ⟨n, le_rfl, ?_⟩⟩
  · rcases five n with h | h | h | h | h
    · have h1 : (n + 1) % 5 = 1 := by omega
      simp only [loopEventAt, loopState, loopSeq, h, h1]; rfl
    · have h1 : (n + 1) % 5 = 2 := by omega
      simp only [loopEventAt, loopState, loopSeq, h, h1]; rfl
    · have h1 : (n + 1) % 5 = 3 := by omega
      simp only [loopEventAt, loopState, loopSeq, h, h1]; rfl
    · have h1 : (n + 1) % 5 = 4 := by omega
      simp only [loopEventAt, loopState, loopSeq, h, h1]; rfl
    · have h1 : (n + 1) % 5 = 0 := by omega
      simp only [loopEventAt, loopState, loopSeq, h, h1]; rfl
  · rcases five n with h | h | h | h | h <;> simp [loopState, loopSeq, h]
  · rcases five n with h | h | h | h | h <;> simp [loopEventAt, h]
  · rcases five n with h | h | h | h | h <;> simp [loopEventAt, h, agentOf]

theorem witness_Sample : b0.seq = .sample ∧ (b0At .decode).seq ≠ .sample := by decide
theorem witness_Decode :
    (decoding true false false false false true 5).seq = .decode ∧
    (decoding true false false false false true 5).cfg.posOverflow = .wrap ∧ b0.seq ≠ .decode ∧
    (decoding true false false false false true 5).sA = some true ∧ fitsS 32 (-2147483648) = true := by decide
theorem witness_OutcomeRows :
    qVector (decoding true false false false false true 5) = 0x21 ∧
    qVector (decoding false true false false true false 5) = 0x12 ∧
    qVector (decoding true true true false false false 5) = 0x38 ∧
    decodeQ (qVector (decoding true true true false false false 5)) ≠ .qdec := by decide
theorem witness_Overflow :
    (let s := decodingFault true false false false false true (-2147483648)
     s.seq = .decode ∧ s.cfg.posOverflow = .fault ∧ 2 ≤ s.cfg.wPos ∧ qVector s = 0x21 ∧ s.pos = -(2 ^ (s.cfg.wPos - 1))) ∧
    (let s := decodingFault false true false false true false 2147483647
     qVector s = 0x12 ∧ s.pos = 2 ^ (s.cfg.wPos - 1) - 1) ∧
    fitsS 32 ((decodingFault true false false false false true 5).pos - 1) = true := by decide
theorem witness_Overflow_outcomes :
    (let s := decodingFault true true true false false false 5
     qVector s ≠ 0x21 ∧ qVector s ≠ 0x12 ∧ Instr.qdec ≠ decodeQ (qVector s) ∧ s.seq = .decode ∧
       s.cfg.posOverflow = .fault ∧ 2 ≤ s.cfg.wPos) := by decide
theorem witness_BtnReset :
    (b0At .btnReset).seq = .btnReset ∧ (b0At .btnReset).latch .btn = false ∧
    ({ b0At .btnReset with sBtn := some true } : State).latch .btn = true ∧ b0.seq ≠ .btnReset ∧
    (b0At .btnReset).sBtn = some false := by decide
theorem witness_Report :
    (b0At .report).seq = .report ∧ (b0At .report).millis % (b0At .report).cfg.reportInterval = 0 ∧
    ({ b0At .report with millis := 8 } : State).millis % refCfg.reportInterval ≠ 0 ∧
    39 < (statusLine refCfg 0).length ∧ (statusLine refCfg 0).length ≤ 40 ∧
    b0.seq ≠ .report := by decide
theorem witness_Gate : 5 * refCfg.inc < 2 ^ refCfg.wMs := by decide
theorem witness_Shift :
    (b0At .shift).seq = .shift ∧ ({ b0At .shift with sA := some true } : State).latch .phA ≠ (b0At .shift).curA ∧
    (b0At .shift).latch .phA = (b0At .shift).curA ∧ (b0At .shift).latch .phB = (b0At .shift).curB ∧ b0.seq ≠ .shift ∧
    (b0At .shift).sA = some false ∧ (b0At .shift).sB = some false := by decide
theorem witness_Iteration : b0.seq = .sample ∧ b0.cfg.posOverflow = .wrap := by decide
theorem witness_Repeated : ({ b0 with curA := true, pos := -1 } : State).seq = .sample := by decide

/-- An iteration from here counts, so the last clause of CountsAreByOneAndNeverRepeated has a case. -/
theorem witness_Counts :
    after (runEvents (iterEvents false true false) { b0 with prevB := true }) (·.pos) = some (-1) := by decide
theorem witness_CleanRotation :
    (let s : State := { b0 with prevB := true }
     s.seq = .sample ∧ s.cfg.posOverflow = .wrap ∧ (s.curA, s.curB, s.prevA, s.prevB) = (false, false, false, true)) ∧
    (let s : State := { b0 with prevA := true }
     (s.curA, s.curB, s.prevA, s.prevB) = (false, false, true, false)) := by decide
theorem witness_Bounce :
    b0.seq = .sample ∧ (b0.curA, b0.curB) = (false, false) ∧ b0.prevB = false ∧ b0.prevA = false := by decide
theorem witness_LoopNeverStalls :
    afterSample (b0At .shift).seq = true ∧ namedEvent true true true (b0At .shift).seq = some .shift ∧
    (b0At .shift).cfg.posOverflow = .wrap ∧ (∃ t, exec (.report true 0) (b0At .report) = .next t ∧ t.seq = .halt) :=
  ⟨by decide, by decide, by decide, ⟨_, rfl, rfl⟩⟩
theorem witness_TxAppend : Instr.report false 0 ≠ .reset ∧ ∃ t, exec (.report false 0) (b0At .report) = .next t ∧ t.tx ≠ [0x47] :=
  ⟨by decide, ⟨_, rfl, by decide⟩⟩
theorem witness_DecimalText : decText (-10) = decText (-10) ∧ decText 10 ≠ decText (-10) := by decide
theorem witness_OnlyTheTable :
    ∃ t, exec (.greet true 0) (bootAt .greet) = .next t ∧ (bootAt .greet).fault = .none ∧ t.fault ≠ .none :=
  ⟨_, rfl, rfl, by decide⟩
theorem witness_OnlyTheTable_causes :
    (∃ t, exec .clockInit { bootAt .clockInit with cfg := badPrescaler } = .next t) ∧
    badPrescaler.prescaler ∉ badPrescaler.supportedPrescalers ∧
    (∃ t, exec (.acquire true) (bootAt .acquire) = .next t) ∧ ∃ t, exec (.report true 0) (b0At .report) = .next t :=
  ⟨⟨_, rfl⟩, by decide, ⟨_, rfl⟩, ⟨_, rfl⟩⟩
theorem witness_HaltIsLeft :
    (∃ t, exec .reset { b0At .halt with fault := .outputWriteFailure } = .next t ∧ t.fault = .none) ∧
    (b0At .halt).seq = .halt ∧ Instr.nowMillis ≠ .reset := ⟨⟨_, rfl, rfl⟩, rfl, by decide⟩
theorem witness_Sequencer :
    (∃ t, exec .shift (b0At .shift) = .next t ∧ agentOf .shift = .main) ∧
    ∃ t, exec .nowMillis b0 = .next t ∧ agentOf .nowMillis ≠ .main ∧ Instr.nowMillis ≠ .reset :=
  ⟨⟨_, rfl, rfl⟩, ⟨_, rfl, by decide, by decide⟩⟩
theorem witness_Elements :
    ∃ t, exec .tick { b0 with irqPend := true } = .next t ∧ Instr.tick ≠ .reset ∧ t.millis ≠ b0.millis :=
  ⟨_, rfl, by decide, by decide⟩
theorem witness_InterruptSide :
    agentOf .tick = .irq ∧ (∃ t, exec .tick { b0 with irqPend := true } = .next t) ∧
    SameClock { b0 with irqPend := true } { b0At .shift with irqPend := true } ∧ (b0At .shift).seq ≠ .halt :=
  ⟨rfl, ⟨_, rfl⟩, ⟨rfl, rfl, rfl, rfl⟩, by decide⟩
theorem witness_Elements_rest :
    (∃ t, exec (.acquire true) (bootAt .acquire) = .next t ∧ t.seq ≠ (bootAt .acquire).seq ∧
      t.fault ≠ (bootAt .acquire).fault) ∧
    ∃ t, exec (.greet false 0) (bootAt .greet) = .next t ∧ t.tx ≠ (bootAt .greet).tx :=
  ⟨⟨_, rfl, by decide, by decide⟩, ⟨_, rfl, by decide⟩⟩

/-- Two schedules of an iteration, an edge, a tick and a probe in other places of it, that MAIN cannot tell apart. -/
theorem witness_OnlyTickCounts :
    let xs : List Instr := [.cmpMatch, .tick, .sample true true true, .decode, .btnReset, .report false 0, .shift]
    let ys : List Instr :=
      [.sample true true true, .nowMillis, .cmpMatch, .decode, .cmpMatch, .btnReset, .tick, .report false 0, .shift]
    (∃ t, runEvents xs b0 = .next t) ∧ (∃ u, runEvents ys b0 = .next u) ∧ Instr.reset ∉ xs ∧ Instr.reset ∉ ys ∧
      mainView xs 0 = mainView ys 0 := ⟨⟨_, rfl⟩, ⟨_, rfl⟩, by decide, by decide, by decide⟩
theorem witness_MainSees :
    agentOf (.sample true true true) = .main ∧ SamePrivate b0 { b0 with millis := 8, irqPend := true } ∧
    SameModel b0 { b0 with millis := 8, irqPend := true } ∧ (∃ t, exec (.sample true true true) b0 = .next t) ∧
    (∃ t, exec (.report false 0) (b0At .report) = .next t) :=
  ⟨rfl, ⟨rfl, rfl, rfl, rfl, rfl, rfl, rfl, rfl, rfl, rfl, rfl, rfl⟩, ⟨rfl, rfl, rfl⟩, ⟨_, rfl⟩, ⟨_, rfl⟩⟩

end Sys2Proof.Tests
end

section
/-!
PROOFS. TX grows at its end only, by GREET and REPORT (R32), and no event reads it: performing an event commutes with
putting bytes before TX, whatever the event answers.
-/

namespace Sys2Proof.Machine

/-! The bytes already sent -/

/-- The state with the bytes `earlier` sent before all that TX holds. -/
def State.prependTx (earlier : List Byte) (s : State) : State := s.setTx (earlier ++ s.tx)

/-- The outcome with its next state, if it answers one, changed by `f`; a fault or a refusal as it is. -/
def mapNext (f : State → State) : Result → Result
  | .next t => .next (f t)
  | .fault r => .fault r
  | .refused r => .refused r

/-- Two guarded events agree up to `f` when their guards agree and their answers agree up to `f`. -/
theorem guarded_eq_mapNext {f : State → State} {m : String} {ok ok' : Bool} {r r' : Result} (hok : ok' = ok)
    (hr : r' = mapNext f r) : guarded m ok' r' = mapNext f (guarded m ok r) := by
  subst hok hr
  cases ok' <;> rfl

theorem guarded_next_eq_mapNext {f : State → State} {m : String} {ok ok' : Bool} {t t' : State} (hok : ok' = ok)
    (ht : t' = f t) : guarded m ok' (.next t') = mapNext f (guarded m ok (.next t)) :=
  guarded_eq_mapNext hok (congrArg Host.Outcome.next ht)

/-! What an event does to TX -/

/-- An event other than RESET keeps TX, or it is GREET or REPORT and appends to it. -/
theorem Effect.tx_kept_or_appended {i : Instr} {s t : State} (h : Effect s i t) (hi : i ≠ .reset) :
    t.tx = s.tx ∨
      ((∃ f k, i = .greet f k) ∨ ∃ f k, i = .report f k) ∧ ∃ bytes, t.tx = s.tx ++ bytes := by
  cases h with
  | reset => exact absurd rfl hi
  | greeted k => exact .inr ⟨.inl ⟨_, _, rfl⟩, _, rfl⟩
  | greetFailed k => exact .inr ⟨.inl ⟨_, _, rfl⟩, _, rfl⟩
  | reported k => exact .inr ⟨.inr ⟨_, _, rfl⟩, _, rfl⟩
  | reportFailed k => exact .inr ⟨.inr ⟨_, _, rfl⟩, _, rfl⟩
  | _ => exact .inl rfl

/-! No event reads TX -/

section
variable (earlier : List Byte) (s : State)

theorem txWriteThen_prependTx (msg : List Byte) (fail : Bool) (k : Nat) (next : Seq) :
    txWriteThen msg fail k next (s.prependTx earlier) = (txWriteThen msg fail k next s).prependTx earlier := by
  cases fail <;> simp [txWriteThen_ok, txWriteThen_fail, State.prependTx, State.setTx]

theorem reportBody_prependTx (fail : Bool) (k : Nat) :
    reportBody fail k (s.prependTx earlier) = (reportBody fail k s).prependTx earlier := by
  rw [reportBody_eq, reportBody_eq, apply_ite (State.prependTx earlier), ← txWriteThen_prependTx]
  rfl

theorem applyOutcome_prependTx (o : Instr) :
    applyOutcome o (s.prependTx earlier) = mapNext (State.prependTx earlier) (applyOutcome o s) := by
  simp only [applyOutcome, stepPos, apply_ite (mapNext (State.prependTx earlier))]
  rfl

theorem latch_prependTx (l : Line) : (s.prependTx earlier).latch l = s.latch l := latch_congr rfl rfl rfl rfl l

theorem changed_prependTx : changed (s.prependTx earlier) = changed s := by
  simp only [changed, latch_prependTx]
  rfl

/-- Performing an event other than RESET commutes with putting bytes before TX: TX decides neither whether the event
is enabled, nor what it writes, nor how it stops. -/
theorem exec_prependTx {i : Instr} (hi : i ≠ .reset) :
    exec i (s.prependTx earlier) = mapNext (State.prependTx earlier) (exec i s) := by
  cases i with
  | reset => exact absurd rfl hi
  | acquire u => cases u <;> exact guarded_next_eq_mapNext rfl rfl
  | clockInit =>
    refine guarded_next_eq_mapNext rfl ?_
    rw [apply_ite (State.prependTx earlier)]
    rfl
  | greet f k => exact guarded_next_eq_mapNext rfl (txWriteThen_prependTx earlier s _ f k .sample)
  | decode => exact guarded_eq_mapNext rfl (applyOutcome_prependTx earlier s _)
  | qdec => exact guarded_eq_mapNext rfl (applyOutcome_prependTx earlier s .qdec)
  | qinc => exact guarded_eq_mapNext rfl (applyOutcome_prependTx earlier s .qinc)
  | qnop q => exact guarded_eq_mapNext rfl (applyOutcome_prependTx earlier s (.qnop q))
  | btnReset =>
    refine guarded_next_eq_mapNext rfl ?_
    rw [latch_prependTx]
    cases s.latch .btn <;> rfl
  | report f k => exact guarded_next_eq_mapNext rfl (reportBody_prependTx earlier s f k)
  | shift =>
    refine guarded_next_eq_mapNext rfl ?_
    rw [changed_prependTx]
    cases changed s <;> rfl
  | _ => exact guarded_next_eq_mapNext rfl rfl

end

/-- Settles O50: every effect of an event keeps TX or appends to it, and `exec_prependTx` says that none reads it. -/
theorem txIsAppendOnly : Obligations.TxIsAppendOnly := by
  intro i s t hi h
  have htx := (effect_of_exec h).tx_kept_or_appended hi
  refine ⟨?_, ?_, fun earlier => ?_⟩
  · rcases htx with hkept | ⟨-, happended⟩
    · exact ⟨[], by rw [hkept, List.append_nil]⟩
    · exact happended
  · exact fun hne => (htx.resolve_left hne).1
  · exact (exec_prependTx earlier s hi).trans (congrArg (mapNext (State.prependTx earlier)) h)

end Sys2Proof.Machine
end

section
/-!
PROOFS. The serial sink (R53): one equation per draw of `fail` for TxWrite, and the draws it admits.
-/

namespace Sys2Proof.Machine

theorem txWrite_ok (msg : List Byte) (k : Nat) (s : State) :
    txWrite msg false k s = { s with tx := s.tx ++ msg } := rfl

theorem txWrite_fail (msg : List Byte) (k : Nat) (s : State) :
    txWrite msg true k s = { s with tx := s.tx ++ msg.take k, fault := .outputWriteFailure, seq := .halt } := rfl

/-- A failing write accepts a proper prefix of its message (R53, D15). -/
theorem writeAdmits_fail_iff (msg : List Byte) (k : Nat) : writeAdmits msg true k = true ↔ k < msg.length := by
  simp [writeAdmits]

/-- Settles O49: the equations of TxWrite, a failing write leaving MILLIS as it was, and the draws admitted. -/
theorem txWriteAppendsOrRaises : Obligations.TxWriteAppendsOrRaises := fun msg k s =>
  ⟨txWrite_ok msg k s, ⟨s.millis, txWrite_fail msg k s⟩, writeAdmits_fail_iff msg k, writeAdmits_ok msg k⟩

end Sys2Proof.Machine
end

section
/-!
PROOFS. The words the decoder refuses (R83) and the vectors it cannot refuse: what each operand reader answers, and the
step at a word that names no event.
-/

namespace Sys2Proof

/-! Fields of an event word -/

theorem argOf_eventWord (op : BitVec 4) (arg : EventArg) : argOf (eventWord op arg) = arg :=
  BitVec.extractLsb'_append_eq_right

/-- The decoder reads a word by its two fields alone (R71). -/
theorem decodeWord_of_op {w : EventWord} {op : BitVec 4} (h : opOf w = op) :
    decodeWord w = decodeFields op.toNat (argOf w) := by
  rw [decodeWord, h]

theorem decodeWord_eventWord (op : BitVec 4) (arg : EventArg) :
    decodeWord (eventWord op arg) = decodeFields op.toNat arg := by
  rw [decodeWord_of_op (opOf_eventWord op arg), argOf_eventWord]

/-! Operands -/

theorem plainEvent_of_ne_zero {arg : EventArg} (h : arg ≠ 0) (i : Instr) : plainEvent arg i = .error .strayArg :=
  if_neg h

theorem acquireEvent_of_stray {arg : EventArg} (h : arg.extractLsb' 1 11 ≠ 0) : acquireEvent arg = .error .strayArg :=
  if_neg h

theorem sampleEvent_of_stray {arg : EventArg} (h : arg.extractLsb' 3 9 ≠ 0) : sampleEvent arg = .error .strayArg :=
  if_neg h

/-- Every vector S is an operand of SAMPLE (R74). -/
theorem sampleEvent_sampleArg (btn a b : Bool) : sampleEvent (sampleArg btn a b) = .ok (.sample btn a b) := by
  cases btn <;> cases a <;> cases b <;> rfl

/-- Without failure a write admits the count 0 alone (R73). -/
theorem drawsWellFormed_ok_iff (k : Nat) : drawsWellFormed false k = true ↔ k = 0 := by
  simp only [drawsWellFormed, Bool.false_or, Bool.and_eq_true, decide_eq_true_eq]
  omega

theorem writeEvent_of_count {arg : EventArg} (hfail : arg.getLsbD 11 = false) (hk : arg.extractLsb' 0 11 ≠ 0)
    (mk : Bool → Nat → Instr) : writeEvent arg mk = .error .countWithoutFail := by
  refine if_neg fun h => hk ?_
  rw [hfail, drawsWellFormed_ok_iff] at h
  exact BitVec.eq_of_toNat_eq h

/-- The ten operations without operand (R72, R73). -/
theorem decodeFields_of_plain :
    ∀ op ∈ ([0x0, 0x2, 0x3, 0x4, 0x7, 0x8, 0xA, 0xB, 0xC, 0xD] : List (BitVec 4)),
      ∃ i, ∀ arg, decodeFields op.toNat arg = plainEvent arg i := by
  simp only [List.forall_mem_cons]
  exact ⟨⟨.reset, fun _ => rfl⟩, ⟨.iocfg, fun _ => rfl⟩, ⟨.clockInit, fun _ => rfl⟩, ⟨.irqEn, fun _ => rfl⟩,
    ⟨.decode, fun _ => rfl⟩, ⟨.btnReset, fun _ => rfl⟩, ⟨.shift, fun _ => rfl⟩, ⟨.cmpMatch, fun _ => rfl⟩,
    ⟨.tick, fun _ => rfl⟩, ⟨.nowMillis, fun _ => rfl⟩, List.forall_mem_nil _⟩

end Sys2Proof

namespace Sys2Proof.Machine

/-! The step at a malformed word -/

theorem step_of_malformedWord {s : State} {w : EventWord} {rest : List TraceEntry} {why : DecodeReject}
    (hcfg : configAccepted s.cfg = true) (htrace : s.trace = .word w :: rest) (hw : decodeWord w = .error why) :
    step s = .refused (.malformedWord w why) := by
  have hentry : readEntry (.word w) = .error (.malformedWord w why) := by simp [readEntry, decode, hw]
  have hfetch : fetch s = .error (.malformedWord w why) := by simp [fetch, hcfg, htrace, hentry]
  simp [step, hfetch]

/-- Settles O4: the op selects the reader of the operand, and the reader refuses the stray bit or the count. -/
theorem malformedWordsAreRefused : Obligations.MalformedWordsAreRefused := by
  refine ⟨?_, ?_, ?_, ?_, ?_, ?_, ?_, fun v => ⟨decodeQ v, rfl⟩⟩
  · rintro w (hop | hop) <;> exact decodeWord_of_op hop
  · intro w hop harg
    obtain ⟨i, hi⟩ := decodeFields_of_plain _ hop
    exact (hi _).trans (plainEvent_of_ne_zero harg i)
  · exact fun w hop harg => (decodeWord_of_op hop).trans (acquireEvent_of_stray harg)
  · exact fun w hop harg => (decodeWord_of_op hop).trans (sampleEvent_of_stray harg)
  · rintro w (hop | hop) hfail hk
    · exact (decodeWord_of_op hop).trans (writeEvent_of_count hfail hk .greet)
    · exact (decodeWord_of_op hop).trans (writeEvent_of_count hfail hk .report)
  · exact fun s w rest why => step_of_malformedWord
  · exact fun btn a b => (decodeWord_eventWord 0x6 _).trans (sampleEvent_sampleArg btn a b)

end Sys2Proof.Machine
end

section
/-!
PROOFS. The decoder vector (R75): its bits, whatever levels it is formed from.
-/

namespace Sys2Proof.Machine

/-- Bits 5 to 0 of a vector Q, most significant first. -/
theorem qOf_getLsbD (sa sb ca cb pa pb : Bool) :
    (qOf sa sb ca cb pa pb).getLsbD 5 = sa ∧ (qOf sa sb ca cb pa pb).getLsbD 4 = sb ∧
    (qOf sa sb ca cb pa pb).getLsbD 3 = ca ∧ (qOf sa sb ca cb pa pb).getLsbD 2 = cb ∧
    (qOf sa sb ca cb pa pb).getLsbD 1 = pa ∧ (qOf sa sb ca cb pa pb).getLsbD 0 = pb := by
  revert sa sb ca cb pa pb; decide

/-- Settles O35: DECODE forms the vector from the fresh pair and the history in that order. -/
theorem decoderVectorBits : Obligations.DecoderVectorBits := fun s =>
  qOf_getLsbD (s.latch .phA) (s.latch .phB) s.curA s.curB s.prevA s.prevB

end Sys2Proof.Machine
end

section
/-!
PROOFS. The text of a trace (R85): comments, tokens, the decimal count of a failing write, and the words the lines stand
for.
-/

namespace Sys2Proof

/-! Words by their numbers -/

theorem eventWord_toNat (op : BitVec 4) (arg : EventArg) :
    (eventWord op arg).toNat = op.toNat * 2 ^ 12 + arg.toNat := by
  rw [eventWord, BitVec.toNat_append, ← Nat.shiftLeft_add_eq_or_of_lt arg.isLt, Nat.shiftLeft_eq]

theorem writeArg_toNat (fail : Bool) {k : Nat} (hk : k < 2 ^ 11) :
    (writeArg fail k).toNat = fail.toNat * 2 ^ 11 + k := by
  rw [writeArg, BitVec.toNat_append, BitVec.toNat_ofBool, BitVec.toNat_ofNat, Nat.mod_eq_of_lt hk,
    ← Nat.shiftLeft_add_eq_or_of_lt hk, Nat.shiftLeft_eq]

/-- The word of a failing write is its op, the fail bit and the count (R73, R85). -/
theorem eventWord_writeArg_fail (op : BitVec 4) {k : Nat} (hk : k < 2 ^ 11) :
    eventWord op (writeArg true k) = BitVec.ofNat 16 (op.toNat * 2 ^ 12 + 2 ^ 11 + k) := by
  apply BitVec.eq_of_toNat_eq
  rw [eventWord_toNat, writeArg_toNat true hk, BitVec.toNat_ofNat, Bool.toNat_true]
  omega

theorem encode_sample (btn a b : Bool) :
    encode (.sample btn a b) = .evt (BitVec.ofNat 16 (0x6000 + 4 * btn.toNat + 2 * a.toNat + b.toNat)) := by
  cases btn <;> cases a <;> cases b <;> rfl

end Sys2Proof

namespace Sys2Proof.Machine

/-! Comments -/

theorem beforeComment_append_semicolon (l c : List Char) : beforeComment (l ++ ';' :: c) = beforeComment l := by
  induction l with
  | nil => rfl
  | cons x l ih => simp only [List.cons_append, beforeComment, ih]

theorem beforeComment_of_notMem {l : List Char} (h : ';' ∉ l) : beforeComment l = l := by
  induction l with
  | nil => rfl
  | cons x l ih =>
    obtain ⟨hx, hl⟩ := not_or.mp (List.mem_cons.not.mp h)
    rw [beforeComment, if_neg (Ne.symm hx), ih hl]

theorem parseLine_comment (l c : String) : parseLine (l ++ ";" ++ c) = parseLine l := by
  have h : (l ++ ";" ++ c).toList = l.toList ++ ';' :: c.toList := by simp
  rw [parseLine, h, beforeComment_append_semicolon, ← parseLine]

/-! Tokens -/

/-- A token: characters, none of which ends it or starts a comment. -/
def IsToken (t : String) : Prop := t.toList ≠ [] ∧ ' ' ∉ t.toList ∧ ';' ∉ t.toList

/-- Characters that are no space go to the token being read. -/
theorem splitTokens_append {t : List Char} (h : ' ' ∉ t) (rest cur : List Char) :
    splitTokens (t ++ rest) cur = splitTokens rest (t.reverse ++ cur) := by
  induction t generalizing cur with
  | nil => rfl
  | cons x t ih =>
    obtain ⟨hx, ht⟩ := not_or.mp (List.mem_cons.not.mp h)
    rw [List.cons_append, splitTokens, if_neg (Ne.symm hx), ih ht, List.reverse_cons, List.append_assoc]
    rfl

/-- A line of one token is an operation without operand. -/
theorem parseLine_token {m : String} (hm : IsToken m) : parseLine m = readPlain m := by
  obtain ⟨hm0, hmSpace, hmComment⟩ := hm
  have htokens : splitTokens (m.toList ++ []) [] = [m] := by
    rw [splitTokens_append hmSpace]
    simp [splitTokens, hm0]
  rw [parseLine, beforeComment_of_notMem hmComment, ← List.append_nil m.toList, htokens]

/-- A line of two tokens is an operation and its operand. -/
theorem parseLine_two_tokens {m x : String} (hm : IsToken m) (hx : IsToken x) :
    parseLine (m ++ " " ++ x) = readUnary m x := by
  obtain ⟨hm0, hmSpace, hmComment⟩ := hm
  obtain ⟨hx0, hxSpace, hxComment⟩ := hx
  have hline : (m ++ " " ++ x).toList = m.toList ++ ' ' :: (x.toList ++ []) := by simp
  have hcomment : ';' ∉ m.toList ++ ' ' :: (x.toList ++ []) := by simp [hmComment, hxComment]
  have htokens : splitTokens (m.toList ++ ' ' :: (x.toList ++ [])) [] = [m, x] := by
    rw [splitTokens_append hmSpace, splitTokens, splitTokens_append hxSpace]
    simp [splitTokens, hm0, hx0]
  rw [parseLine, hline, beforeComment_of_notMem hcomment, htokens]

/-! The count of a failing write -/

/-- Digits are read as the library reads a decimal number. -/
theorem readDigits_eq {cs : List Char} (h : ∀ c ∈ cs, c.isDigit = true) (acc : Nat) :
    readDigits cs acc = some (Nat.ofDigitChars 10 cs acc) := by
  induction cs generalizing acc with
  | nil => rfl
  | cons c cs ih =>
    obtain ⟨hc, hcs⟩ := List.forall_mem_cons.mp h
    rw [readDigits, if_pos hc, ih hcs, Nat.ofDigitChars_cons, Nat.mul_comm 10 acc]

theorem isDigit_of_mem_toString {k : Nat} {c : Char} (h : c ∈ (toString k).toList) : c.isDigit = true :=
  Nat.isDigit_of_mem_toDigits (by decide) (by decide) (Nat.toList_repr ▸ h)

theorem readDigits_toString (k : Nat) : readDigits (toString k).toList 0 = some k := by
  rw [readDigits_eq fun _ => isDigit_of_mem_toString]
  exact congrArg some (by rw [Nat.toString_eq_repr, Nat.toList_repr, Nat.ofDigitChars_ten_toDigits])

theorem isToken_failAt (k : Nat) : IsToken ("fail@" ++ toString k) := by
  have hdigits : ∀ c ∈ [' ', ';'], c ∉ (toString k).toList := fun c hc h => by
    have := isDigit_of_mem_toString h
    fin_cases hc <;> contradiction
  simp only [IsToken, String.toList_append, List.mem_append, not_or]
  exact ⟨by simp, ⟨by decide, hdigits _ (by simp)⟩, by decide, hdigits _ (by simp)⟩

theorem readFail_failAt {k : Nat} (hk : k < 2 ^ 11) : readFail ("fail@" ++ toString k) = some k := by
  obtain ⟨c, rest, hcs⟩ : ∃ c rest, (toString k).toList = c :: rest :=
    List.exists_cons_of_ne_nil (by simp [Nat.toDigits_ne_nil])
  have htoken : ("fail@" ++ toString k).toList = 'f' :: 'a' :: 'i' :: 'l' :: '@' :: c :: rest := by
    rw [String.toList_append, hcs]
    rfl
  have hread : readDigits (c :: rest) 0 = some k := hcs ▸ readDigits_toString k
  simp only [readFail, htoken, hread, if_pos hk]

/-! Lines -/

theorem append_failText (m : String) (k : Nat) : m ++ failText true k = m ++ " fail@" ++ toString k :=
  String.append_assoc.symm

/-- GREET and REPORT: a line with the draws of a write names the event of that mnemonic with those draws. -/
theorem parseLine_write {m : String} {mk : Bool → Nat → Instr} (hm : IsToken m)
    (hplain : readPlain m = some (mk false 0)) (hunary : ∀ x, readUnary m x = (readFail x).map (mk true))
    {fail : Bool} {k : Nat} (hwf : drawsWellFormed fail k = true) :
    parseLine (m ++ failText fail k) = some (mk fail k) := by
  cases fail with
  | false =>
    obtain rfl := (drawsWellFormed_ok_iff k).mp hwf
    have hline : m ++ failText false 0 = m := String.append_empty
    rw [hline, parseLine_token hm, hplain]
  | true =>
    have hk : k < 2 ^ 11 := by simpa [drawsWellFormed] using hwf
    have hline : m ++ failText true k = m ++ " " ++ ("fail@" ++ toString k) := by
      simp [String.ext_iff, failText]
    rw [hline, parseLine_two_tokens hm (isToken_failAt k), hunary, readFail_failAt hk]
    rfl

/-- The line of a well-formed event names that event. -/
theorem parseLine_traceLine {i : Instr} {l : String} (hwf : i.wellFormed = true) (h : traceLine i = some l) :
    parseLine l = some i := by
  cases i with
  | acquire u => cases u <;> cases h <;> decide
  | sample btn a b => cases h; revert btn a b; decide
  | greet fail k => cases h; exact parseLine_write (by simp [IsToken]) rfl (fun _ => rfl) hwf
  | report fail k => cases h; exact parseLine_write (by simp [IsToken]) rfl (fun _ => rfl) hwf
  | qdec => cases h
  | qinc => cases h
  | qnop q => cases h
  | _ => cases h; decide

/-- Settles O5: `parseLine_traceLine` and `parseLine_comment` read the lines; the words of the failing writes and of SAMPLE
come from their fields, and the other words are the encoder's by definition. -/
theorem traceLinesNameTheirWords : Obligations.TraceLinesNameTheirWords :=
  ⟨fun _ _ => parseLine_traceLine, parseLine_comment, ⟨rfl, rfl⟩, ⟨rfl, rfl⟩, ⟨rfl, rfl⟩, ⟨rfl, rfl⟩, ⟨rfl, rfl⟩,
    ⟨rfl, rfl⟩, ⟨rfl, rfl⟩, fun k => congrArg some (append_failText "GREET" k),
    fun _ hk => congrArg Encoding.evt (eventWord_writeArg_fail 0x5 hk), fun btn a b => ⟨rfl, encode_sample btn a b⟩,
    ⟨rfl, rfl⟩, ⟨rfl, rfl⟩, ⟨rfl, rfl⟩, fun k => congrArg some (append_failText "REPORT" k),
    fun _ hk => congrArg Encoding.evt (eventWord_writeArg_fail 0x9 hk), ⟨rfl, rfl⟩, ⟨rfl, rfl⟩, ⟨rfl, rfl⟩, ⟨rfl, rfl⟩⟩

end Sys2Proof.Machine
end

section
/-!
PROOFS. The events of the clock one at a time (40_clock.md R101, R104, R105): what each answers where it is enabled, and
its refusal elsewhere.
-/

namespace Sys2Proof.Machine

/-- A guarded event is refused by name wherever its enabling condition does not hold (R87). -/
theorem guarded_of_not_enabled {m : String} {ok : Bool} (h : ¬ok = true) (r : Result) :
    guarded m ok r = .refused (.notEnabled m) :=
  guarded_of_disabled (Bool.eq_false_of_not_eq_true h) r

/-- An event of MAIN is refused by name wherever SEQ does not name it (R27, R87). -/
theorem guarded_of_seq_ne {m : String} {s : State} {q : Seq} (h : s.seq ≠ q) (r : Result) :
    guarded m (atSeq s q) r = .refused (.notEnabled m) :=
  guarded_of_not_enabled ((atSeq_iff s q).not.mpr h) r

/-! CLOCK_INIT -/

section
variable {s : State}

theorem exec_clockInit_of_supported (hs : s.seq = .clockInit) (hp : s.cfg.prescaler ∈ s.cfg.supportedPrescalers) :
    exec .clockInit s = .next { s with millis := 0, tmrRun := true, seq := .irqEn } := by
  have hsupported : prescalerSupported s.cfg = true := decide_eq_true hp
  refine (guarded_of_enabled ((atSeq_iff s _).mpr hs) _).trans ?_
  rw [if_pos hsupported]
  rfl

theorem exec_clockInit_of_unsupported (hs : s.seq = .clockInit) (hp : s.cfg.prescaler ∉ s.cfg.supportedPrescalers) :
    exec .clockInit s = .next { s with fault := .configError, seq := .halt } := by
  have hunsupported : ¬prescalerSupported s.cfg = true := fun h => hp (of_decide_eq_true h)
  refine (guarded_of_enabled ((atSeq_iff s _).mpr hs) _).trans ?_
  rw [if_neg hunsupported, raise_eq]

/-! CMP_MATCH -/

theorem exec_cmpMatch_of_armed (ht : s.tmrRun = true) (hs : s.seq ≠ .halt) :
    exec .cmpMatch s = .next { s with irqPend := true } :=
  guarded_of_enabled ((edgeEnabled_iff s).mpr ⟨ht, hs⟩) _

/-- Setting IRQ_PEND where it is set changes nothing (R29). -/
theorem setIrqPend_of_pending (h : s.irqPend = true) : { s with irqPend := true } = s := by
  rw [← h]

/-! TICK -/

theorem exec_tick_of_pending (hp : s.irqPend = true) (hg : s.gie = true) (hs : s.seq ≠ .halt) :
    exec .tick s = .next { s with millis := (s.millis + s.cfg.inc) % 2 ^ s.cfg.wMs, irqPend := false } :=
  guarded_of_enabled ((tickEnabled_iff s).mpr ⟨⟨hp, hg⟩, hs⟩) _

/-- An addition that passes the modulus by less than the modulus wraps once. -/
theorem sub_add_mod_of_le {m d n : Nat} (hd : d ≤ n) (hn : n < m) : (m - d + n) % m = n - d := by
  rw [show m - d + n = m + (n - d) by omega, Nat.add_mod_left, Nat.mod_eq_of_lt (by omega)]

end

/-! The obligations -/

/-- Settles O14: the two branches on the prescaler; the quiet boot of the last clause is part of the invariant. -/
theorem clockInitStartsTheTimerOrHalts : Obligations.ClockInitStartsTheTimerOrHalts := by
  refine ⟨rfl, fun s => ⟨exec_clockInit_of_supported, exec_clockInit_of_unsupported,
    fun hs => guarded_of_seq_ne hs _, fun hinv hs => ?_⟩⟩
  obtain ⟨htmr, hgie, hpend, hmillis⟩ := hinv.bootQuiet (by rw [hs]; rfl)
  exact ⟨hgie, htmr, hpend, hmillis⟩

/-- Settles O18: an armed source latches the edge, and a second edge is absorbed. -/
theorem cmpMatchLatchesOneEdge : Obligations.CmpMatchLatchesOneEdge := by
  refine ⟨rfl, fun s => ⟨exec_cmpMatch_of_armed, fun ht hs hp => ?_, fun h => guarded_of_not_enabled ?_ _⟩⟩
  · rw [exec_cmpMatch_of_armed ht hs, setIrqPend_of_pending hp]
  · rw [edgeEnabled_iff]
    rintro ⟨ht, hs⟩
    rcases h with h | h
    · simp [h] at ht
    · exact hs h

/-- Settles O19: the handler's effect where TICK is enabled; the last INC values below 2^W_MS wrap. -/
theorem tickAddsTheIncrement : Obligations.TickAddsTheIncrement := by
  refine ⟨rfl, fun s => ⟨exec_tick_of_pending, fun h => guarded_of_not_enabled ?_ _, fun d t hinc hm _ hd hexec => ?_⟩⟩
  · rw [tickEnabled_iff]
    rintro ⟨⟨hp, hg⟩, hs⟩
    rcases h with h | h | h
    · simp [h] at hp
    · simp [h] at hg
    · exact hs h
  · obtain ⟨-, rfl⟩ := execTick_next hexec
    exact hm ▸ sub_add_mod_of_le hd hinc

end Sys2Proof.Machine
end

section
/-!
PROOFS. GIE and MILLIS along a run (40_clock.md R102, R106): IRQ_EN alone sets GIE, TICK alone advances MILLIS, and
RESET and CLOCK_INIT alone restart it.
-/

namespace Sys2Proof.Machine

open Sys2Proof.Safety

/-! What an event does to GIE and MILLIS -/

section
variable {i : Instr} {s t : State} {events : List Instr}

/-- An event keeps GIE, or it is RESET and clears it, or it is IRQ_EN (R28). -/
theorem Effect.gie_cases (h : Effect s i t) : t.gie = s.gie ∨ (i = .reset ∧ t.gie = false) ∨ i = .irqEn := by
  cases h with
  | reset => exact .inr (.inl ⟨rfl, rfl⟩)
  | enabled => exact .inr (.inr rfl)
  | _ => exact .inl rfl

/-- An event keeps MILLIS, or it is TICK, or it is RESET or CLOCK_INIT and restarts it (R21). -/
theorem Effect.millis_cases (h : Effect s i t) :
    t.millis = s.millis ∨ i = .tick ∨ ((i = .reset ∨ i = .clockInit) ∧ t.millis = 0) := by
  cases h with
  | reset => exact .inr (.inr ⟨.inl rfl, rfl⟩)
  | started => exact .inr (.inr ⟨.inr rfl, rfl⟩)
  | ticked => exact .inr (.inl rfl)
  | _ => exact .inl rfl

theorem gie_false_of_exec (hi : i ≠ .irqEn) (hs : s.gie = false) (h : exec i s = .next t) : t.gie = false := by
  rcases (effect_of_exec h).gie_cases with hkept | ⟨-, hcleared⟩ | henable
  · exact hkept.trans hs
  · exact hcleared
  · exact absurd henable hi

theorem millis_zero_of_exec (hi : i ≠ .tick) (hs : s.millis = 0) (h : exec i s = .next t) : t.millis = 0 := by
  rcases (effect_of_exec h).millis_cases with hkept | htick | ⟨-, hzero⟩
  · exact hkept.trans hs
  · exact absurd htick hi
  · exact hzero

theorem millis_of_exec (htick : i ≠ .tick) (hinit : i ≠ .clockInit) (hreset : i ≠ .reset) (h : exec i s = .next t) :
    t.millis = s.millis := by
  rcases (effect_of_exec h).millis_cases with hkept | hi | ⟨hi | hi, -⟩
  · exact hkept
  · exact absurd hi htick
  · exact absurd hi hreset
  · exact absurd hi hinit

/-! Along a run -/

/-- What every event of a trace keeps holds at the end of its run. -/
theorem runEvents_keeps_of_forall_mem {P : State → Prop} (h : ∀ i ∈ events, ∀ s t, P s → exec i s = .next t → P t)
    (hs : P s) (hrun : runEvents events s = .next t) : P t := by
  induction events generalizing s with
  | nil => cases hrun; exact hs
  | cons i rest ih =>
    obtain ⟨hi, hrest⟩ := List.forall_mem_cons.mp h
    obtain ⟨u, hu, hrun⟩ := runEvents_cons_eq_next_iff.mp hrun
    exact ih hrest (hi s u hs hu) hrun

theorem gie_false_of_run (hs : s.gie = false) (hrun : runEvents events s = .next t) (henable : .irqEn ∉ events) :
    t.gie = false :=
  runEvents_keeps_of_forall_mem (P := fun u => u.gie = false)
    (fun _ hi _ _ => gie_false_of_exec (ne_of_mem_of_not_mem hi henable)) hs hrun

/-- Where GIE is false and no IRQ_EN happens, no TICK happens: before it GIE would be false still (R105). -/
theorem tick_notMem_of_run (hs : s.gie = false) (hrun : runEvents events s = .next t) (henable : .irqEn ∉ events) :
    .tick ∉ events := by
  intro htick
  obtain ⟨before, after, rfl⟩ := List.append_of_mem htick
  obtain ⟨u, hbefore, hafter⟩ := runEvents_append_eq_next_iff.mp hrun
  obtain ⟨v, hexec, -⟩ := runEvents_cons_eq_next_iff.mp hafter
  have hmasked : u.gie = false := gie_false_of_run hs hbefore fun h => henable (List.mem_append_left _ h)
  obtain ⟨⟨⟨-, hgie⟩, -⟩, -⟩ := execTick_next hexec
  simp [hmasked] at hgie

theorem millis_zero_of_run (hs : s.millis = 0) (hrun : runEvents events s = .next t) (htick : .tick ∉ events) :
    t.millis = 0 :=
  runEvents_keeps_of_forall_mem (P := fun u => u.millis = 0)
    (fun _ hi _ _ => millis_zero_of_exec (ne_of_mem_of_not_mem hi htick)) hs hrun

theorem millis_of_run (htick : .tick ∉ events) (hinit : .clockInit ∉ events) (hreset : .reset ∉ events)
    (hrun : runEvents events s = .next t) : t.millis = s.millis :=
  runEvents_keeps_of_forall_mem (P := fun u => u.millis = s.millis)
    (fun _ hi _ _ hu h => (millis_of_exec (ne_of_mem_of_not_mem hi htick) (ne_of_mem_of_not_mem hi hinit)
      (ne_of_mem_of_not_mem hi hreset) h).trans hu) rfl hrun

/-- A run that begins with RESET is a run from the reset block. -/
theorem runEvents_reset_cons (events : List Instr) (s : State) :
    runEvents (.reset :: events) s = runEvents events (resetBlock s) := rfl

/-! IRQ_EN -/

theorem exec_irqEn_of_seq (hs : s.seq = .irqEn) : exec .irqEn s = .next { s with gie := true, seq := .greet } :=
  guarded_of_enabled ((atSeq_iff s _).mpr hs) _

theorem eq_irqEn_of_gie_raised (h : exec i s = .next t) (hs : s.gie = false) (ht : t.gie = true) : i = .irqEn := by
  by_contra hi
  simp [gie_false_of_exec hi hs h] at ht

/-! NOW_MILLIS -/

theorem exec_nowMillis_of_running (hs : s.seq ≠ .halt) : exec .nowMillis s = .next { s with tLatch := some s.millis } :=
  guarded_of_enabled ((running_iff s).mpr hs) _

/-- A run that ends in a read leaves in T_LATCH the counter that the events before it left (R106). -/
theorem tLatch_of_run_nowMillis (hrun : runEvents (events ++ [.nowMillis]) s = .next t) :
    ∃ u, runEvents events s = .next u ∧ t.tLatch = some u.millis := by
  obtain ⟨u, hu, hread⟩ := runEvents_append_eq_next_iff.mp hrun
  obtain ⟨v, hexec, hend⟩ := runEvents_cons_eq_next_iff.mp hread
  obtain ⟨-, rfl⟩ := execNowMillis_next hexec
  cases hend
  exact ⟨u, hu, rfl⟩

end

/-! The obligations -/

/-- Settles O15: GIE false is kept by every other event, so in a run from RESET without IRQ_EN no TICK is enabled, and
without a TICK MILLIS stays 0. -/
theorem irqEnIsTheOnlyEnable : Obligations.IrqEnIsTheOnlyEnable := by
  refine ⟨rfl, fun s hs => ⟨exec_irqEn_of_seq hs, fun hp => by simp [enabled, hp]⟩, fun s hs => guarded_of_seq_ne hs _,
    fun _ _ _ => eq_irqEn_of_gie_raised, fun events s t hrun henable => ?_⟩
  rw [runEvents_reset_cons] at hrun
  have htick : .tick ∉ events := tick_notMem_of_run rfl hrun henable
  exact ⟨htick, millis_zero_of_run rfl hrun htick⟩

/-- Settles O20: a read copies MILLIS to T_LATCH, and between two reads only a TICK or a restart changes MILLIS. -/
theorem nowMillisReturnsTheCounter : Obligations.NowMillisReturnsTheCounter := by
  refine ⟨rfl, fun s => ⟨exec_nowMillis_of_running, fun hs => ?_,
    fun hs => guarded_of_not_enabled (fun h => (running_iff s).mp h hs) _,
    fun events t htick hinit hreset hrun => ?_, fun events t htick hrun => ?_⟩⟩
  · simp [observations, exec_nowMillis_of_running hs, observe, returnedValue, hs]
  · obtain ⟨u, hu, hlatch⟩ := tLatch_of_run_nowMillis hrun
    have hkept : u.millis = s.millis := by
      refine millis_of_run (events := .nowMillis :: events) ?_ ?_ ?_ hu <;> simpa
    rw [hlatch, hkept]
  · obtain ⟨u, hu, hlatch⟩ := tLatch_of_run_nowMillis hrun
    rw [runEvents_reset_cons] at hu
    rw [hlatch, millis_zero_of_run rfl hu htick]

end Sys2Proof.Machine
end

section
/-!
PROOFS. The events of the loop one at a time (41_decoder_loop.md R120 to R129): what each answers where SEQ names it, its
refusal elsewhere, and that none of them waits (R136).
-/

namespace Sys2Proof.Machine

open Sys2Proof.Safety

/-! The range of POS (R8, R23) -/

theorem fitsS_iff (w : Nat) (v : Int) : fitsS w v = true ↔ -(2 ^ (w - 1)) ≤ v ∧ v < 2 ^ (w - 1) := by
  simp [fitsS]

theorem two_pow_eq_two_mul {w : Nat} (hw : 1 ≤ w) : ((2 ^ w : Nat) : Int) = 2 * 2 ^ (w - 1) := by
  obtain ⟨n, rfl⟩ := Nat.exists_eq_add_of_le' hw
  rw [Nat.add_sub_cancel, Nat.cast_pow, pow_succ', Nat.cast_ofNat]

/-- Within the range wrapping is exact. -/
theorem wrapS_of_fitsS {w : Nat} (hw : 1 ≤ w) {v : Int} (h : fitsS w v = true) : wrapS w v = v := by
  obtain ⟨hlow, hhigh⟩ := (fitsS_iff w v).mp h
  have hpow := two_pow_eq_two_mul hw
  exact Int.bmod_eq_of_le (by omega) (by omega)

theorem wrapS_add_two_pow (w : Nat) (v : Int) : wrapS w (v + (2 ^ w : Nat)) = wrapS w v := Int.add_bmod_right ..

/-- One below the least position is the greatest. -/
theorem wrapS_least_sub_one {w : Nat} (hw : 1 ≤ w) : wrapS w (-(2 ^ (w - 1)) - 1) = 2 ^ (w - 1) - 1 := by
  have hpow := two_pow_eq_two_mul hw
  have hpos : (0 : Int) < 2 ^ (w - 1) := by positivity
  rw [← wrapS_add_two_pow, show -(2 ^ (w - 1)) - 1 + ((2 ^ w : Nat) : Int) = 2 ^ (w - 1) - 1 by omega]
  exact wrapS_of_fitsS hw ((fitsS_iff w _).mpr (by omega))

/-- One above the greatest position is the least. -/
theorem wrapS_greatest_add_one {w : Nat} (hw : 1 ≤ w) : wrapS w (2 ^ (w - 1) - 1 + 1) = -(2 ^ (w - 1)) := by
  have hpow := two_pow_eq_two_mul hw
  have hpos : (0 : Int) < 2 ^ (w - 1) := by positivity
  rw [show (2 ^ (w - 1) - 1 + 1 : Int) = -(2 ^ (w - 1)) + (2 ^ w : Nat) by omega, wrapS_add_two_pow]
  exact wrapS_of_fitsS hw ((fitsS_iff w _).mpr (by omega))

section
variable {s : State} {m : String} {q : Seq}

/-- An event of MAIN is performed where SEQ names it (R27, R87). -/
theorem guarded_of_seq (h : s.seq = q) (r : Result) : guarded m (atSeq s q) r = r :=
  guarded_of_enabled ((atSeq_iff s q).mpr h) r

/-! SAMPLE -/

theorem exec_sample_of_seq (btn a b : Bool) (hs : s.seq = .sample) :
    exec (.sample btn a b) s = .next { s with sBtn := some btn, sA := some a, sB := some b, seq := .decode } :=
  guarded_of_seq hs _

/-! DECODE -/

theorem exec_decode_of_seq (hs : s.seq = .decode) : exec .decode s = applyOutcome (decodeQ (qVector s)) s :=
  guarded_of_seq hs _

theorem applyOutcome_of_not_counting {o : Instr} (ho : countOf o = 0) :
    applyOutcome o s = .next { s with seq := .btnReset } :=
  applyOutcome_eq_next_iff.mpr (.inl ⟨ho, rfl⟩)

theorem applyOutcome_of_counting {o : Instr} {d : Int} (ho : countOf o = d) (hd : d ≠ 0)
    (hwrap : s.cfg.posOverflow = .wrap) :
    applyOutcome o s = .next { s with pos := wrapS s.cfg.wPos (s.pos + d), seq := .btnReset } := by
  subst ho
  exact applyOutcome_eq_next_iff.mpr (.inr ⟨hd, posFaults_of_wrap hwrap _, rfl⟩)

/-- DECODE by its vector: -1 at 0x21, +1 at 0x12, nothing at the other 62 (R122 to R124). -/
theorem exec_decode_of_wrap (hs : s.seq = .decode) (hwrap : s.cfg.posOverflow = .wrap) :
    exec .decode s =
      if qVector s = 0x21 then .next { s with pos := wrapS s.cfg.wPos (s.pos - 1), seq := .btnReset }
      else if qVector s = 0x12 then .next { s with pos := wrapS s.cfg.wPos (s.pos + 1), seq := .btnReset }
      else .next { s with seq := .btnReset } := by
  have hcount := countOf_decodeQ (qVector s)
  rw [exec_decode_of_seq hs]
  split
  · next hdec => exact applyOutcome_of_counting (d := -1) (by rw [hcount, if_pos hdec]) (by decide) hwrap
  · next hdec =>
    rw [if_neg hdec] at hcount
    split
    · next hinc => exact applyOutcome_of_counting (by rw [hcount, if_pos hinc]) (by decide) hwrap
    · next hinc => exact applyOutcome_of_not_counting (by rw [hcount, if_neg hinc])

/-! BTN_RESET -/

theorem exec_btnReset_of_seq (hs : s.seq = .btnReset) :
    exec .btnReset s = .next { s with pos := if s.latch .btn then 0 else s.pos, seq := .report } := by
  refine (guarded_of_seq hs _).trans ?_
  cases s.latch .btn <;> rfl

/-! REPORT -/

theorem exec_report_of_admits {fail : Bool} {k : Nat} (hs : s.seq = .report) (hk : reportAdmits s fail k = true) :
    exec (.report fail k) s = .next (reportBody fail k s) :=
  guarded_of_enabled (by rw [Bool.and_eq_true, atSeq_iff]; exact ⟨hs, hk⟩) _

theorem exec_report_of_not_enabled {fail : Bool} {k : Nat} (h : ¬(s.seq = .report ∧ reportAdmits s fail k = true)) :
    exec (.report fail k) s = .refused (.notEnabled "REPORT") :=
  guarded_of_not_enabled (by rwa [Bool.and_eq_true, atSeq_iff]) _

/-- A failing REPORT needs the gate open and a count below the line's length (R87, R126). -/
theorem reportAdmits_fail_iff (s : State) (k : Nat) :
    reportAdmits s true k = true ↔ s.millis % s.cfg.reportInterval = 0 ∧ k < (statusLine s.cfg s.pos).length := by
  simp [reportAdmits, gateOpen, writeAdmits_fail_iff]

theorem exec_report_of_closed (k : Nat) (hs : s.seq = .report) (hg : s.millis % s.cfg.reportInterval ≠ 0) :
    exec (.report false k) s = .next { s with tLatch := some s.millis, seq := .shift } := by
  rw [exec_report_of_admits hs (reportAdmits_ok s k), reportBody_eq, if_neg hg]

theorem exec_report_of_open (k : Nat) (hs : s.seq = .report) (hg : s.millis % s.cfg.reportInterval = 0) :
    exec (.report false k) s =
      .next { s with tLatch := some s.millis, tx := s.tx ++ statusLine s.cfg s.pos, seq := .shift } := by
  rw [exec_report_of_admits hs (reportAdmits_ok s k), reportBody_eq, if_pos hg, txWriteThen_ok]

theorem exec_report_of_failing {k : Nat} (hs : s.seq = .report) (hg : s.millis % s.cfg.reportInterval = 0)
    (hk : k < (statusLine s.cfg s.pos).length) :
    exec (.report true k) s =
      .next { s with tLatch := some s.millis, tx := s.tx ++ (statusLine s.cfg s.pos).take k,
                     fault := .outputWriteFailure, seq := .halt } := by
  rw [exec_report_of_admits hs ((reportAdmits_fail_iff s k).mpr ⟨hg, hk⟩), reportBody_eq, if_pos hg, txWriteThen_fail]

/-! SHIFT -/

/-- The change detector is true exactly when the fresh pair differs from the one-back pair (R78). -/
theorem changed_iff (s : State) : changed s = true ↔ s.latch .phA ≠ s.curA ∨ s.latch .phB ≠ s.curB := by
  simp [changed]

theorem exec_shift_of_changed (hs : s.seq = .shift) (hc : s.latch .phA ≠ s.curA ∨ s.latch .phB ≠ s.curB) :
    exec .shift s = .next { s with prevA := s.curA, prevB := s.curB, curA := s.latch .phA, curB := s.latch .phB,
                                   seq := .sample } := by
  refine (guarded_of_seq hs _).trans ?_
  rw [if_pos ((changed_iff s).mpr hc)]
  rfl

theorem exec_shift_of_same (hs : s.seq = .shift) (ha : s.latch .phA = s.curA) (hb : s.latch .phB = s.curB) :
    exec .shift s = .next { s with seq := .sample } := by
  refine (guarded_of_seq hs _).trans ?_
  rw [if_neg fun hc => ((changed_iff s).mp hc).elim (absurd ha) (absurd hb)]
  rfl

/-! No loop event waits (R136) -/

section
variable {i : Instr} {t : State}

/-- The five states of the loop (R27). -/
theorem loop_cases (h : q = .sample ∨ afterSample q = true) :
    q = .sample ∨ q = .decode ∨ q = .btnReset ∨ q = .report ∨ q = .shift := by
  simpa [afterSample, or_assoc] using h

theorem exec_decode_completes (hs : s.seq = .decode) (hwrap : s.cfg.posOverflow = .wrap) :
    ∃ t, exec .decode s = .next t ∧ t.seq = .btnReset := by
  rw [exec_decode_of_wrap hs hwrap]
  split
  · exact ⟨_, rfl, rfl⟩
  · split <;> exact ⟨_, rfl, rfl⟩

theorem exec_report_completes (k : Nat) (hs : s.seq = .report) :
    ∃ t, exec (.report false k) s = .next t ∧ t.seq = .shift := by
  by_cases hg : s.millis % s.cfg.reportInterval = 0
  · exact ⟨_, exec_report_of_open k hs hg, rfl⟩
  · exact ⟨_, exec_report_of_closed k hs hg, rfl⟩

theorem exec_shift_completes (hs : s.seq = .shift) : ∃ t, exec .shift s = .next t ∧ t.seq = .sample :=
  ⟨_, guarded_of_seq hs _, rfl⟩

/-- Past the boot only a failing REPORT enters HALT (R151, R153). -/
theorem Effect.eq_failing_report_of_halts (h : Effect s i t) (hboot : inBoot s.seq = false) (hs : s.seq ≠ .halt)
    (ht : t.seq = .halt) : ∃ k, i = .report true k := by
  cases h with
  | reportFailed k => exact ⟨k, rfl⟩
  | unavailable hq => simp [hq, inBoot, beforeClockInit] at hboot
  | unsupported hq => simp [hq, inBoot, beforeClockInit] at hboot
  | greetFailed k hq => simp [hq, inBoot] at hboot
  | edge => exact absurd ht hs
  | ticked => exact absurd ht hs
  | probed => exact absurd ht hs
  | _ => cases ht

end

end

/-! The obligations -/

/-- Settles O33: the vector is 0x21 or 0x12 exactly on the two patterns, and the positions wrap as `wrapS` does. -/
theorem decodeCountsOnTheTwoPatterns : Obligations.DecodeCountsOnTheTwoPatterns := by
  refine ⟨rfl, fun s hs hwrap => ?_, fun s hs => guarded_of_seq_ne hs _,
    fun s => ⟨fun _ => latch_phA_of_some, fun _ => latch_phB_of_some⟩, fun w hw => ?_⟩
  · simp only [← qOf_eq_dec_iff, ← qOf_eq_inc_iff]
    exact exec_decode_of_wrap hs hwrap
  · have hw : 1 ≤ w := by omega
    exact ⟨wrapS_least_sub_one hw, wrapS_greatest_add_one hw, fun _ => wrapS_of_fitsS hw⟩

/-- Settles O38: the gate tests the value read, and the draws that R87 does not admit are refused. -/
theorem reportWritesAtMultiples : Obligations.ReportWritesAtMultiples := by
  refine ⟨rfl, fun k hk => congrArg Encoding.evt (eventWord_writeArg_fail 0x9 hk), fun s k =>
    ⟨exec_report_of_closed k, exec_report_of_open k, fun hs hg hk => ⟨s.millis, exec_report_of_failing hs hg hk⟩,
      fun _ hbad => exec_report_of_not_enabled ?_, fun hs fail => exec_report_of_not_enabled fun h => hs h.1⟩⟩
  rintro ⟨-, hadmits⟩
  obtain ⟨hg, hk⟩ := (reportAdmits_fail_iff s k).mp hadmits
  exact hbad.elim (absurd hg) (Nat.not_le_of_lt hk)

/-- Settles O46: the event of each loop state completes, and the only effect that halts from there is REPORT's. -/
theorem loopNeverStalls : Obligations.LoopNeverStalls := by
  refine ⟨fun btn a b i s hloop hi hwrap => ?_, fun i s t hloop h ht => ?_⟩
  · rcases loop_cases hloop with hs | hs | hs | hs | hs <;> rw [hs] at hi ⊢ <;> cases hi
    · exact ⟨_, exec_sample_of_seq btn a b hs, rfl⟩
    · exact exec_decode_completes hs hwrap
    · exact ⟨_, exec_btnReset_of_seq hs, rfl⟩
    · exact exec_report_completes 0 hs
    · exact exec_shift_completes hs
  · obtain ⟨hboot, hhalt⟩ : inBoot s.seq = false ∧ s.seq ≠ .halt := by
      rcases loop_cases hloop with hs | hs | hs | hs | hs <;> rw [hs] <;> decide
    exact (effect_of_exec h).eq_failing_report_of_halts hboot hhalt ht

/-- Settles O32: SAMPLE latches its draws. -/
theorem sampleLatchesTheDraws : Obligations.SampleLatchesTheDraws := fun btn a b _ =>
  ⟨encode_sample btn a b, exec_sample_of_seq btn a b, fun hs => guarded_of_seq_ne hs _⟩

/-- Settles O37: the two levels of the button latch. -/
theorem btnResetClearsOnHigh : Obligations.BtnResetClearsOnHigh := by
  refine ⟨rfl, fun s => ⟨fun hs hhigh => ?_, fun hs hlow => ?_, fun hs => guarded_of_seq_ne hs _,
    fun _ => latch_btn_of_some⟩⟩
  · rw [exec_btnReset_of_seq hs, if_pos hhigh]
  · rw [exec_btnReset_of_seq hs, hlow, if_neg Bool.false_ne_true]

/-- Settles O40: SHIFT moves the history on the change detector's value. -/
theorem shiftMovesHistoryOnChange : Obligations.ShiftMovesHistoryOnChange :=
  ⟨rfl, fun _ => ⟨exec_shift_of_changed, exec_shift_of_same, fun hs => guarded_of_seq_ne hs _,
    fun _ _ ha hb => ⟨latch_phA_of_some ha, latch_phB_of_some hb⟩⟩⟩

end Sys2Proof.Machine
end

section
/-!
PROOFS. Reset and boot (42_boot.md R145 to R148): what RESET, ACQUIRE, IOCFG and GREET answer, and that a run with no
RESET leaves the boot for good with its one GREET.
-/

namespace Sys2Proof.Machine

open Sys2Proof.Safety

section
variable {i : Instr} {s t : State} {events : List Instr}

/-! One event at a time -/

theorem exec_reset (s : State) : exec .reset s = .next (resetBlock s) := rfl

theorem exec_acquire_of_available (hs : s.seq = .acquire) : exec (.acquire false) s = .next { s with seq := .iocfg } :=
  guarded_of_seq hs _

theorem exec_acquire_of_unavailable (hs : s.seq = .acquire) :
    exec (.acquire true) s = .next { s with fault := .peripheralUnavailable, seq := .halt } :=
  guarded_of_seq hs _

theorem exec_iocfg_of_seq (hs : s.seq = .iocfg) : exec .iocfg s = .next { s with seq := .clockInit } :=
  guarded_of_seq hs _

theorem exec_greet_of_admits {fail : Bool} {k : Nat} (hs : s.seq = .greet)
    (hk : writeAdmits s.cfg.greeting fail k = true) :
    exec (.greet fail k) s = .next (txWriteThen s.cfg.greeting fail k .sample s) :=
  guarded_of_enabled (by rw [Bool.and_eq_true, atSeq_iff]; exact ⟨hs, hk⟩) _

theorem exec_greet_of_seq (k : Nat) (hs : s.seq = .greet) :
    exec (.greet false k) s = .next { s with tx := s.tx ++ s.cfg.greeting, seq := .sample } := by
  rw [exec_greet_of_admits hs (writeAdmits_ok _ k), txWriteThen_ok]

theorem exec_greet_of_failing {k : Nat} (hs : s.seq = .greet) (hk : k < s.cfg.greeting.length) :
    exec (.greet true k) s =
      .next { s with tx := s.tx ++ s.cfg.greeting.take k, fault := .outputWriteFailure, seq := .halt } := by
  rw [exec_greet_of_admits hs ((writeAdmits_fail_iff _ k).mpr hk), txWriteThen_fail]

theorem exec_greet_of_not_enabled {fail : Bool} {k : Nat}
    (h : ¬(s.seq = .greet ∧ writeAdmits s.cfg.greeting fail k = true)) :
    exec (.greet fail k) s = .refused (.notEnabled "GREET") :=
  guarded_of_not_enabled (by rwa [Bool.and_eq_true, atSeq_iff]) _

/-- In HALT nothing but RESET is enabled (R87, R154). -/
theorem enabled_eq_false_of_halt (hs : s.seq = .halt) (hi : i ≠ .reset) : enabled i s = false := by
  cases i with
  | reset => exact absurd rfl hi
  | _ => simp [enabled, hs]

/-! The boot is left once -/

/-- SEQ comes to GREET by IRQ_EN; in GREET an event of another agent leaves it there (R27). -/
theorem Effect.seq_greet_cases (h : Effect s i t) (ht : t.seq = .greet) :
    s.seq = .irqEn ∨ (s.seq = .greet ∧ agentOf i ≠ .main) := by
  cases h with
  | enabled hs => exact .inl hs
  | edge => exact .inr ⟨ht, by decide⟩
  | ticked => exact .inr ⟨ht, by decide⟩
  | probed => exact .inr ⟨ht, by decide⟩
  | _ => cases ht

/-- An event other than RESET that ends in the boot began there, and it is no GREET. -/
theorem Effect.of_inBoot (h : Effect s i t) (hi : i ≠ .reset) (ht : inBoot t.seq = true) :
    inBoot s.seq = true ∧ isGreet i = false := by
  cases h with
  | reset => exact absurd rfl hi
  | acquired hs => exact ⟨by rw [hs]; rfl, rfl⟩
  | configured hs => exact ⟨by rw [hs]; rfl, rfl⟩
  | started hs => exact ⟨by rw [hs]; rfl, rfl⟩
  | enabled hs => exact ⟨by rw [hs]; rfl, rfl⟩
  | edge => exact ⟨ht, rfl⟩
  | ticked => exact ⟨ht, rfl⟩
  | probed => exact ⟨ht, rfl⟩
  | _ => cases ht

/-- GREET is performed in the boot only (R148). -/
theorem inBoot_of_exec_isGreet (h : exec i s = .next t) (hgreet : isGreet i = true) : inBoot s.seq = true := by
  cases i with
  | greet fail k =>
    obtain ⟨hs, -, -⟩ := execGreet_next h
    rw [hs]
    rfl
  | _ => cases hgreet

/-- Being in the boot is worth one GREET, which GREET spends and no event but RESET gives back. -/
theorem isGreet_add_inBoot_le (h : exec i s = .next t) (hi : i ≠ .reset) :
    (isGreet i).toNat + (inBoot t.seq).toNat ≤ (inBoot s.seq).toNat := by
  cases ht : inBoot t.seq with
  | true =>
    obtain ⟨hs, hgreet⟩ := (effect_of_exec h).of_inBoot hi ht
    rw [hs, hgreet]
    decide
  | false => exact Bool.toNat_le_toNat (inBoot_of_exec_isGreet h)

/-- A run with no RESET performs one GREET at most, and none past the boot. -/
theorem countP_isGreet_le_inBoot (hrun : runEvents events s = .next t) (hreset : .reset ∉ events) :
    events.countP isGreet ≤ (inBoot s.seq).toNat := by
  induction events generalizing s with
  | nil => exact Nat.zero_le _
  | cons i rest ih =>
    obtain ⟨u, hu, hrest⟩ := runEvents_cons_eq_next_iff.mp hrun
    obtain ⟨hi, hreset⟩ := not_or.mp (List.mem_cons.not.mp hreset)
    calc (i :: rest).countP isGreet
        = rest.countP isGreet + (isGreet i).toNat := List.countP_cons.trans (by cases isGreet i <;> rfl)
      _ ≤ (inBoot u.seq).toNat + (isGreet i).toNat := Nat.add_le_add_right (ih hrest hreset) _
      _ ≤ (inBoot s.seq).toNat := Nat.add_comm _ _ ▸ isGreet_add_inBoot_le hu (Ne.symm hi)

end

/-! The obligations -/

/-- Settles O16: the draws that R53 admits decide between writing and refusing; in a run with no RESET the GREET spends
the boot. -/
theorem greetWritesTheGreetingOnce : Obligations.GreetWritesTheGreetingOnce := by
  refine ⟨fun k hk => congrArg Encoding.evt (eventWord_writeArg_fail 0x5 hk), rfl, fun s k =>
    ⟨exec_greet_of_seq k, fun hs hk => ⟨s.millis, exec_greet_of_failing hs hk⟩,
      fun _ hk => exec_greet_of_not_enabled ?_, fun hs fail => exec_greet_of_not_enabled fun h => hs h.1⟩,
    fun _ _ _ h => (effect_of_exec h).seq_greet_cases, fun _ _ _ h hi ht => ((effect_of_exec h).of_inBoot hi ht).1,
    fun events s t hrun hreset => ?_⟩
  · rintro ⟨-, hadmits⟩
    exact Nat.not_lt.mpr hk ((writeAdmits_fail_iff _ k).mp hadmits)
  · have hcount := countP_isGreet_le_inBoot hrun hreset
    exact ⟨hcount.trans (Bool.toNat_le _), fun hs => Nat.le_zero.mp (by rwa [hs] at hcount)⟩

/-- Settles O11: the reset block holds the values of R35, whatever the state was. -/
theorem resetGivesEveryElementItsValue : Obligations.ResetGivesEveryElementItsValue :=
  ⟨rfl, fun s => ⟨resetBlock s, exec_reset s, by simp [resetBlock, State.reset]⟩⟩

/-- Settles O12: the two draws of ACQUIRE; the failing one halts, and HALT enables RESET alone. -/
theorem acquireTakesThePeripheralsOrHalts : Obligations.AcquireTakesThePeripheralsOrHalts := by
  refine ⟨rfl, rfl, fun s => ⟨exec_acquire_of_available, fun hs => ⟨s.millis, exec_acquire_of_unavailable hs⟩,
    fun hs _ => guarded_of_seq_ne hs _, fun t i h hi => ?_⟩⟩
  obtain ⟨-, rfl⟩ := execAcquire_next h
  exact enabled_eq_false_of_halt rfl hi

/-- Settles O13: IOCFG moves SEQ and nothing else. -/
theorem iocfgOnlyAdvances : Obligations.IocfgOnlyAdvances :=
  ⟨rfl, fun _ => ⟨exec_iocfg_of_seq, fun hs => guarded_of_seq_ne hs _⟩⟩

end Sys2Proof.Machine
end

section
/-!
PROOFS. Edges, fatal errors, HALT (60_exceptions.md R151, R154, R158): what each event does to IRQ_PEND and to FAULT,
and that HALT refuses every event but RESET.
-/

namespace Sys2Proof.Machine

section
variable {i : Instr} {s t : State} {c : FatalCode} {q : Seq}

/-! IRQ_PEND -/

/-- Events other than CMP_MATCH, TICK and RESET leave IRQ_PEND (R158). -/
theorem Effect.irqPend_kept (h : Effect s i t) (hedge : i ≠ .cmpMatch) (htick : i ≠ .tick) (hreset : i ≠ .reset) :
    t.irqPend = s.irqPend := by
  cases h with
  | reset => exact absurd rfl hreset
  | edge => exact absurd rfl hedge
  | ticked => exact absurd rfl htick
  | _ => rfl

/-! FAULT -/

/-- The fault table of R151: the event `i`, performed in the state `s`, is to record the code. -/
inductive FaultCause (s : State) : Instr → FatalCode → Prop where
  | unsupported (hp : s.cfg.prescaler ∉ s.cfg.supportedPrescalers) : FaultCause s .clockInit .configError
  | unavailable : FaultCause s (.acquire true) .peripheralUnavailable
  | greetFailed (k : Nat) : FaultCause s (.greet true k) .outputWriteFailure
  | reportFailed (k : Nat) : FaultCause s (.report true k) .outputWriteFailure

theorem FaultCause.ne_none (h : FaultCause s i c) : c ≠ .none := by
  cases h <;> decide

/-- An event keeps FAULT, or it is RESET and clears it, or it records the code that the table gives it. -/
theorem Effect.fault_cases (h : Effect s i t) :
    t.fault = s.fault ∨ (i = .reset ∧ t.fault = .none) ∨ FaultCause s i t.fault := by
  cases h with
  | reset => exact .inr (.inl ⟨rfl, rfl⟩)
  | unavailable => exact .inr (.inr .unavailable)
  | unsupported _ hp => exact .inr (.inr (.unsupported hp))
  | greetFailed k => exact .inr (.inr (.greetFailed k))
  | reportFailed k => exact .inr (.inr (.reportFailed k))
  | _ => exact .inl rfl

/-- A fault that was not recorded before an event has its cause in the table. -/
theorem faultCause_of_exec (h : exec i s = .next t) (hs : s.fault = .none) (ht : t.fault ≠ .none) :
    FaultCause s i t.fault := by
  rcases (effect_of_exec h).fault_cases with hkept | ⟨-, hcleared⟩ | hcause
  · exact absurd (hkept.trans hs) ht
  · exact absurd hcleared ht
  · exact hcause

/-- An event with a cause in the table records its code, whatever FAULT was. -/
theorem FaultCause.fault_of_exec (hcause : FaultCause s i c) (h : exec i s = .next t) : t.fault = c := by
  cases hcause with
  | unsupported hp => obtain ⟨-, rfl⟩ := execClockInit_next h; rw [if_neg hp]
  | unavailable => obtain ⟨-, rfl⟩ := execAcquire_next h; rfl
  | greetFailed k => obtain ⟨-, -, rfl⟩ := execGreet_next h; rfl
  | reportFailed k =>
    obtain ⟨-, hadmits, rfl⟩ := execReport_next h
    obtain ⟨hgate, -⟩ := (reportAdmits_fail_iff s k).mp hadmits
    rw [reportBody_eq, if_pos hgate, txWriteThen_fail]

/-- RESET alone clears FAULT (R154). -/
theorem eq_reset_of_fault_cleared (h : exec i s = .next t) (hs : s.fault ≠ .none) (ht : t.fault = .none) :
    i = .reset := by
  rcases (effect_of_exec h).fault_cases with hkept | ⟨hreset, -⟩ | hcause
  · exact absurd (hkept.symm.trans ht) hs
  · exact hreset
  · exact absurd ht hcause.ne_none

/-! HALT -/

/-- An event of MAIN with a further condition is refused by name wherever SEQ does not name it (R27, R87). -/
theorem guarded_and_of_seq_ne {m : String} (h : s.seq ≠ q) (ok : Bool) (r : Result) :
    guarded m (atSeq s q && ok) r = .refused (.notEnabled m) :=
  guarded_of_not_enabled (fun hok => (atSeq_iff s q).not.mpr h (Bool.and_eq_true_iff.mp hok).1) r

/-- SEQ at HALT names no event of MAIN, and the other agents' events need a running block: only RESET is left (R154,
R155). -/
theorem exec_of_halt (hs : s.seq = .halt) (hi : i ≠ .reset) :
    exec i s = .refused (.notEnabled (mnemonicOf i)) := by
  cases i with
  | reset => exact absurd rfl hi
  | cmpMatch => exact guarded_of_not_enabled (fun h => ((edgeEnabled_iff s).mp h).2 hs) _
  | tick => exact guarded_of_not_enabled (fun h => ((tickEnabled_iff s).mp h).2 hs) _
  | nowMillis => exact guarded_of_not_enabled (fun h => (running_iff s).mp h hs) _
  | greet | report | qdec | qinc | qnop => exact guarded_and_of_seq_ne (by simp [hs]) _ _
  | _ => exact guarded_of_seq_ne (by simp [hs]) _

theorem eq_reset_of_exec_halt (h : exec i s = .next t) (hs : s.seq = .halt) : i = .reset := by
  by_contra hi
  cases h.symm.trans (exec_of_halt hs hi)

end

/-! The obligations -/

/-- Settles O26: the edge sets the bit, the handler and RESET clear it, and no other effect writes it. -/
theorem pendingIsSetByEdgesClearedByTicks : Obligations.PendingIsSetByEdgesClearedByTicks := by
  refine fun i s t h => ⟨?_, ?_, ?_, (effect_of_exec h).irqPend_kept⟩
  · rintro rfl
    obtain ⟨-, rfl⟩ := execCmpMatch_next h
    rfl
  · rintro rfl
    obtain ⟨-, rfl⟩ := execTick_next h
    rfl
  · rintro rfl
    cases (exec_reset s).symm.trans h
    rfl

/-- Settles O51: a recorded fault has its row in the table of causes, and each row records its code. -/
theorem onlyTheTableOfFaultsIsRaised : Obligations.OnlyTheTableOfFaultsIsRaised := by
  refine ⟨rfl, rfl, rfl, rfl, fun i s t h hs ht => ?_, fun _ _ h hp => (FaultCause.unsupported hp).fault_of_exec h,
    fun _ _ => FaultCause.unavailable.fault_of_exec, fun k _ _ h =>
      h.elim (FaultCause.greetFailed k).fault_of_exec (FaultCause.reportFailed k).fault_of_exec⟩
  have hcause := faultCause_of_exec h hs ht
  generalize t.fault = c at hcause ⊢
  cases hcause with
  | unsupported hp => exact .inl ⟨rfl, rfl, hp⟩
  | unavailable => exact .inr (.inl ⟨rfl, rfl⟩)
  | greetFailed k => exact .inr (.inr ⟨⟨k, .inl rfl⟩, rfl⟩)
  | reportFailed k => exact .inr (.inr ⟨⟨k, .inr rfl⟩, rfl⟩)

/-- Settles O52: HALT refuses every event but RESET, and RESET alone clears FAULT. -/
theorem haltIsLeftByResetOnly : Obligations.HaltIsLeftByResetOnly :=
  ⟨fun _ _ _ => eq_reset_of_exec_halt, fun _ _ _ => eq_reset_of_fault_cleared, fun _ hs _ => exec_of_halt hs,
    fun s => ⟨resetBlock s, exec_reset s, rfl, rfl⟩⟩

end Sys2Proof.Machine
end

section
/-!
PROOFS. The two directions of the code (R71 to R77): the operand readers invert the operand makers, so decoding and
encoding are inverse to each other on the well-formed terms; the rows of the opcode table are the accepted words.
-/

namespace Sys2Proof

/-! Words by their fields -/

theorem eventWord_opOf_argOf (w : EventWord) : eventWord (opOf w) (argOf w) = w :=
  BitVec.extractLsb'_append_extractLsb'

theorem eventWord_inj {op op' : BitVec 4} {arg arg' : EventArg} (h : eventWord op arg = eventWord op' arg') :
    op = op' ∧ arg = arg' := by
  have hop := congrArg opOf h
  have harg := congrArg argOf h
  rw [opOf_eventWord, opOf_eventWord] at hop
  rw [argOf_eventWord, argOf_eventWord] at harg
  exact ⟨hop, harg⟩

/-! Operands: what a reader accepts, and the operand it was made from -/

theorem ofBool_getLsbD_eq_extractLsb' {n : Nat} (x : BitVec n) (i : Nat) :
    BitVec.ofBool (x.getLsbD i) = x.extractLsb' i 1 := by
  ext j hj
  obtain rfl : j = 0 := by omega
  simp

theorem acquireArg_of_bit {arg : EventArg} (h : arg.extractLsb' 1 11 = 0) : acquireArg (arg.getLsbD 0) = arg := by
  rw [acquireArg, ← h, ofBool_getLsbD_eq_extractLsb']
  exact BitVec.extractLsb'_append_extractLsb'

theorem sampleArg_of_bits {arg : EventArg} (h : arg.extractLsb' 3 9 = 0) :
    sampleArg (arg.getLsbD 2) (arg.getLsbD 1) (arg.getLsbD 0) = arg := by
  simp only [sampleArg, ← h, ofBool_getLsbD_eq_extractLsb']
  rw [BitVec.extractLsb'_append_extractLsb'_eq_extractLsb' (start₂ := 1) rfl,
    BitVec.extractLsb'_append_extractLsb'_eq_extractLsb' (start₂ := 2) rfl]
  exact BitVec.extractLsb'_append_extractLsb'

theorem writeArg_of_fields (arg : EventArg) : writeArg (arg.getLsbD 11) (arg.extractLsb' 0 11).toNat = arg := by
  rw [writeArg, ofBool_getLsbD_eq_extractLsb', BitVec.ofNat_toNat, BitVec.setWidth_eq]
  exact BitVec.extractLsb'_append_extractLsb'

/-- The fields of the draws of a write are read back (R73). -/
theorem writeArg_fields (fail : Bool) {k : Nat} (hk : k < 2 ^ 11) :
    (writeArg fail k).getLsbD 11 = fail ∧ ((writeArg fail k).extractLsb' 0 11).toNat = k := by
  constructor
  · rw [writeArg, BitVec.getLsbD_append]
    cases fail <;> rfl
  · rw [writeArg, BitVec.extractLsb'_append_eq_right, BitVec.toNat_ofNat, Nat.mod_eq_of_lt hk]

theorem plainEvent_eq_ok_iff {arg : EventArg} {i j : Instr} : plainEvent arg i = .ok j ↔ arg = 0 ∧ j = i := by
  unfold plainEvent
  split
  · next h => simp only [h, Except.ok.injEq, true_and, eq_comm]
  · next h => simp only [h, reduceCtorEq, false_and]

theorem acquireEvent_eq_ok_iff {arg : EventArg} {j : Instr} :
    acquireEvent arg = .ok j ↔ ∃ u, arg = acquireArg u ∧ j = .acquire u := by
  constructor
  · intro h
    unfold acquireEvent at h
    split at h
    · next hstray => exact ⟨_, (acquireArg_of_bit hstray).symm, (Except.ok.inj h).symm⟩
    · cases h
  · rintro ⟨u, rfl, rfl⟩
    cases u <;> rfl

theorem sampleEvent_eq_ok_iff {arg : EventArg} {j : Instr} :
    sampleEvent arg = .ok j ↔ ∃ btn a b, arg = sampleArg btn a b ∧ j = .sample btn a b := by
  constructor
  · intro h
    unfold sampleEvent at h
    split at h
    · next hstray => exact ⟨_, _, _, (sampleArg_of_bits hstray).symm, (Except.ok.inj h).symm⟩
    · cases h
  · rintro ⟨btn, a, b, rfl, rfl⟩
    exact sampleEvent_sampleArg btn a b

theorem writeEvent_eq_ok_iff {arg : EventArg} {mk : Bool → Nat → Instr} {j : Instr} :
    writeEvent arg mk = .ok j ↔ ∃ fail k, drawsWellFormed fail k = true ∧ arg = writeArg fail k ∧ j = mk fail k := by
  constructor
  · intro h
    unfold writeEvent at h
    split at h
    · next hwf => exact ⟨_, _, hwf, (writeArg_of_fields arg).symm, (Except.ok.inj h).symm⟩
    · cases h
  · rintro ⟨fail, k, hwf, rfl, rfl⟩
    have hk : k < 2 ^ 11 := of_decide_eq_true (Bool.and_eq_true_iff.mp hwf).1
    obtain ⟨hfail, hcount⟩ := writeArg_fields fail hk
    rw [writeEvent, hfail, hcount, if_pos hwf]

/-! The decoder and the encoder -/

/-- What the fields of a word decode to is well formed, and those fields encode it. -/
theorem encode_of_decodeFields {op : BitVec 4} {arg : EventArg} {i : Instr} (h : decodeFields op.toNat arg = .ok i) :
    i.wellFormed = true ∧ encode i = .evt (eventWord op arg) := by
  generalize hn : op.toNat = n at h
  obtain rfl : op = BitVec.ofNat 4 n := by rw [← hn, BitVec.ofNat_toNat, BitVec.setWidth_eq]
  unfold decodeFields at h
  split at h
  case h_2 => obtain ⟨u, rfl, rfl⟩ := acquireEvent_eq_ok_iff.mp h; exact ⟨rfl, rfl⟩
  case h_6 | h_10 => obtain ⟨fail, k, hwf, rfl, rfl⟩ := writeEvent_eq_ok_iff.mp h; exact ⟨hwf, rfl⟩
  case h_7 => obtain ⟨btn, a, b, rfl, rfl⟩ := sampleEvent_eq_ok_iff.mp h; exact ⟨rfl, rfl⟩
  case h_15 => cases h
  all_goals obtain ⟨rfl, rfl⟩ := plainEvent_eq_ok_iff.mp h; exact ⟨rfl, rfl⟩

theorem decodeQ_of_wellFormed {q : QVec} (h : (Instr.qnop q).wellFormed = true) : decodeQ q = .qnop q := by
  obtain ⟨hdec, hinc⟩ := Bool.and_eq_true_iff.mp h
  rw [decodeQ, if_neg (of_decide_eq_true hdec), if_neg (of_decide_eq_true hinc)]

/-- A vector is well-formed as the outcome it selects, and encodes it. -/
theorem encode_decodeQ (v : QVec) : (decodeQ v).wellFormed = true ∧ encode (decodeQ v) = .q v := by
  unfold decodeQ
  split
  · next hdec => exact ⟨rfl, congrArg Encoding.q hdec.symm⟩
  · next hdec =>
    split
    · next hinc => exact ⟨rfl, congrArg Encoding.q hinc.symm⟩
    · next hinc => exact ⟨Bool.and_eq_true_iff.mpr ⟨decide_eq_true hdec, decide_eq_true hinc⟩, rfl⟩

/-- Settles O1: the op of an event's word selects the reader that inverts the maker of its operand; the vector of an
outcome is its row of the pattern table. -/
theorem decodeOfEncodeIsIdentity : Obligations.DecodeOfEncodeIsIdentity := by
  intro i hwf
  cases i with
  | acquire u => exact (decodeWord_eventWord 0x1 _).trans (acquireEvent_eq_ok_iff.mpr ⟨u, rfl, rfl⟩)
  | greet fail k => exact (decodeWord_eventWord 0x5 _).trans (writeEvent_eq_ok_iff.mpr ⟨fail, k, hwf, rfl, rfl⟩)
  | sample btn a b => exact (decodeWord_eventWord 0x6 _).trans (sampleEvent_sampleArg btn a b)
  | report fail k => exact (decodeWord_eventWord 0x9 _).trans (writeEvent_eq_ok_iff.mpr ⟨fail, k, hwf, rfl, rfl⟩)
  | qnop q => exact congrArg Except.ok (decodeQ_of_wellFormed hwf)
  | _ => rfl

/-- Settles O2: a word is its two fields, and `encode_of_decodeFields` inverts the reader its op selects. -/
theorem encodeOfDecodeIsIdentity : Obligations.EncodeOfDecodeIsIdentity := by
  intro e i h
  cases e with
  | evt w =>
    obtain ⟨hwf, hencode⟩ := encode_of_decodeFields (op := opOf w) h
    exact ⟨hwf, hencode.trans (congrArg Encoding.evt (eventWord_opOf_argOf w))⟩
  | q v =>
    cases h
    exact encode_decodeQ v

/-! The rows of the opcode table -/

/-- Under a mask that begins at bit `k` all bits are 0 exactly when the field from bit `k` on is. -/
theorem and_allOnes_shiftLeft_eq_zero_iff {n : Nat} (x : BitVec n) (k : Nat) :
    x &&& BitVec.allOnes n <<< k = 0 ↔ x.extractLsb' k (n - k) = 0 := by
  constructor
  · intro h
    ext j hj
    have hbit := congrArg (BitVec.getLsbD · (k + j)) h
    simpa [show k + j < n by omega, show j < n by omega] using hbit
  · intro h
    ext j hj
    by_cases hjk : j < k
    · simp [hjk]
    · have hbit := congrArg (BitVec.getLsbD · (j - k)) h
      have hj' : k + (j - k) = j := by omega
      simp [hj', show j - k < n - k by omega, hj] at hbit
      simp [hbit]

/-- A word matches a row whose mask covers the op exactly when it has the row's op and no bit of arg under the mask. -/
theorem matches_eventWord {r : EventRow} (hmask : opOf r.mask = BitVec.allOnes 4) (hpattern : argOf r.pattern = 0)
    (op : BitVec 4) (arg : EventArg) :
    r.matches (eventWord op arg) = (decide (arg &&& argOf r.mask = 0) && decide (opOf r.pattern = op)) := by
  have hand : eventWord op arg &&& r.mask = eventWord op (arg &&& argOf r.mask) := by
    rw [← eventWord_opOf_argOf r.mask, hmask, argOf_eventWord, eventWord, eventWord, BitVec.and_append,
      BitVec.and_allOnes, ← eventWord]
  have hrow : r.pattern = eventWord (opOf r.pattern) 0 := by rw [← hpattern, eventWord_opOf_argOf]
  rw [Bool.eq_iff_iff, EventRow.matches, hand, Bool.and_eq_true, decide_eq_true_eq, decide_eq_true_eq,
    decide_eq_true_eq]
  constructor
  · intro h
    obtain ⟨hop, harg⟩ := eventWord_inj (h.trans hrow)
    exact ⟨harg, hop.symm⟩
  · rintro ⟨harg, rfl⟩
    rw [harg, ← hrow]

/-- The rows that match a word: the one of its op, where there is one and no bit of arg is set under its mask. -/
theorem filter_matches_eventWord (op : BitVec 4) (arg : EventArg) :
    eventRows.filter (fun r => r.matches (eventWord op arg)) =
      eventRows[op.toNat]?.toList.filter fun r => decide (arg &&& argOf r.mask = 0) := by
  have hrows : eventRows[op.toNat]?.toList = eventRows.filter fun r => decide (opOf r.pattern = op) := by
    revert op; decide
  have hmasks : ∀ r ∈ eventRows, opOf r.mask = BitVec.allOnes 4 ∧ argOf r.pattern = 0 := by decide
  rw [hrows, List.filter_filter]
  refine List.filter_congr fun r hr => ?_
  obtain ⟨hmask, hpattern⟩ := hmasks r hr
  exact matches_eventWord hmask hpattern op arg

/-- A word with no bit of arg under the mask of its op's row matches that row alone. -/
theorem filter_matches_of_row {op : BitVec 4} {arg : EventArg} {r : EventRow} (hr : eventRows[op.toNat]? = some r)
    (harg : arg &&& argOf r.mask = 0) : eventRows.filter (fun r => r.matches (eventWord op arg)) = [r] := by
  rw [filter_matches_eventWord, hr]
  simp [harg]

/-- A word with a bit of arg under the mask of its op's row matches no row. -/
theorem filter_matches_of_stray {op : BitVec 4} {arg : EventArg} {r : EventRow} (hr : eventRows[op.toNat]? = some r)
    (harg : arg &&& argOf r.mask ≠ 0) : eventRows.filter (fun r => r.matches (eventWord op arg)) = [] := by
  rw [filter_matches_eventWord, hr, Option.toList_some, List.filter_singleton, decide_eq_false harg]
  rfl

/-- The word of a well-formed event matches one row, which has its mnemonic. -/
theorem encode_matches_one_row {i : Instr} {w : EventWord} (h : encode i = .evt w) :
    ∃ r, eventRows.filter (fun r => r.matches w) = [r] ∧ r.mnemonic = mnemonicOf i := by
  cases i with
  | greet fail k => cases h; exact ⟨_, filter_matches_of_row rfl (BitVec.and_zero), rfl⟩
  | report fail k => cases h; exact ⟨_, filter_matches_of_row rfl (BitVec.and_zero), rfl⟩
  | acquire u => cases h; exact ⟨_, filter_matches_of_row rfl (by revert u; decide), rfl⟩
  | sample btn a b => cases h; exact ⟨_, filter_matches_of_row rfl (by revert btn a b; decide), rfl⟩
  | qdec | qinc | qnop q => cases h
  | _ => cases h; exact ⟨_, filter_matches_of_row rfl (BitVec.zero_and), rfl⟩

/-- An operand reader that tests one condition rejects exactly the operands that fail it, for the reason it names. -/
theorem ite_ok_eq_error_iff {c : Prop} [Decidable c] {i : Instr} {reason why : DecodeReject} :
    (if c then .ok i else .error reason : Except DecodeReject Instr) = .error why ↔ ¬c ∧ why = reason := by
  split
  · next h => simp [h]
  · next h => simp [h, eq_comm]

/-- A word the decoder rejects matches no row, but for the count that the masks of GREET and REPORT let pass. -/
theorem filter_matches_of_rejected {op : BitVec 4} {arg : EventArg} {why : DecodeReject}
    (h : decodeFields op.toNat arg = .error why) :
    (eventRows.filter (fun r => r.matches (eventWord op arg)) = [] ∧ why ≠ .countWithoutFail) ∨
      (why = .countWithoutFail ∧ (op = 0x5 ∨ op = 0x9)) := by
  generalize hn : op.toNat = n at h
  obtain rfl : op = BitVec.ofNat 4 n := by rw [← hn, BitVec.ofNat_toNat, BitVec.setWidth_eq]
  unfold decodeFields at h
  split at h
  case h_6 => exact .inr ⟨(ite_ok_eq_error_iff.mp h).2, .inl rfl⟩
  case h_10 => exact .inr ⟨(ite_ok_eq_error_iff.mp h).2, .inr rfl⟩
  case h_2 =>
    obtain ⟨harg, rfl⟩ := ite_ok_eq_error_iff.mp h
    exact .inl ⟨filter_matches_of_stray rfl ((and_allOnes_shiftLeft_eq_zero_iff arg 1).not.mpr harg), by decide⟩
  case h_7 =>
    obtain ⟨harg, rfl⟩ := ite_ok_eq_error_iff.mp h
    exact .inl ⟨filter_matches_of_stray rfl ((and_allOnes_shiftLeft_eq_zero_iff arg 3).not.mpr harg), by decide⟩
  case h_15 =>
    obtain rfl := Except.error.inj h
    have hlen : eventRows.length = 14 := rfl
    have hnone : eventRows[(BitVec.ofNat 4 n).toNat]? = none := by
      simp only [imp_false] at *
      exact List.getElem?_eq_none (by omega)
    exact .inl ⟨by rw [filter_matches_eventWord, hnone]; rfl, by decide⟩
  all_goals
    obtain ⟨harg, rfl⟩ := ite_ok_eq_error_iff.mp h
    exact .inl ⟨filter_matches_of_stray rfl fun h0 => harg (BitVec.and_allOnes.symm.trans h0), by decide⟩

/-- Settles O3: an accepted word is the encoding of its event, which has one row; a rejected word has no row, or a count
that its row's mask does not see. -/
theorem acceptedWordsMatchOneTableRow : Obligations.AcceptedWordsMatchOneTableRow := by
  refine ⟨fun w i h => encode_matches_one_row (encodeOfDecodeIsIdentity (.evt w) i h).2, fun w why h => ?_⟩
  have hrows := filter_matches_of_rejected (op := opOf w) h
  rwa [eventWord_opOf_argOf] at hrows

end Sys2Proof
end

section
/-!
PROOFS. What an event does not read (R33, R64, R71): MAIN's events, REPORT, CLOCK_INIT and IRQ_EN apart, commute with
any change of the clock and of T_LATCH, and every event commutes with a change of the rest of the trace.
-/

namespace Sys2Proof.Machine

open Sys2Proof.Safety

/-- A change of the elements that MAIN's own state does not depend on: the clock (R33), T_LATCH, and the trace of the
model. An element not given keeps its value. -/
structure Retouch where
  millis : Nat → Nat := id
  gie : Bool → Bool := id
  irqPend : Bool → Bool := id
  tmrRun : Bool → Bool := id
  tLatch : Option Nat → Option Nat := id
  trace : List TraceEntry → List TraceEntry := id

/-- The state with those elements changed. -/
def State.retouch (r : Retouch) (s : State) : State :=
  { s with millis := r.millis s.millis, gie := r.gie s.gie, irqPend := r.irqPend s.irqPend,
           tmrRun := r.tmrRun s.tmrRun, tLatch := r.tLatch s.tLatch, trace := r.trace s.trace }

theorem mapNext_eq_next_iff {f : State → State} {r : Result} {t : State} :
    mapNext f r = .next t ↔ ∃ u, r = .next u ∧ f u = t := by
  cases r <;> simp [mapNext]

section
variable (r : Retouch) (s : State)

theorem latch_retouch (l : Line) : (s.retouch r).latch l = s.latch l := latch_congr rfl rfl rfl rfl l

theorem changed_retouch : changed (s.retouch r) = changed s := by
  simp only [changed, latch_retouch]
  rfl

theorem txWriteThen_retouch (msg : List Byte) (fail : Bool) (k : Nat) (next : Seq) :
    txWriteThen msg fail k next (s.retouch r) = (txWriteThen msg fail k next s).retouch r := by
  cases fail <;> rfl

theorem applyOutcome_retouch (o : Instr) :
    applyOutcome o (s.retouch r) = mapNext (State.retouch r) (applyOutcome o s) := by
  simp only [applyOutcome, stepPos, apply_ite (mapNext (State.retouch r))]
  rfl

/-- REPORT reads MILLIS, and writes T_LATCH whatever it held (R126). -/
theorem reportBody_retouch (h : r.millis s.millis = s.millis) (fail : Bool) (k : Nat) :
    reportBody fail k (s.retouch r) = (reportBody fail k s).retouch { r with tLatch := id } := by
  have hmillis : (s.retouch r).millis = s.millis := h
  have hlatched : (s.retouch r).setTLatch (s.retouch r).millis =
      (s.setTLatch s.millis).retouch { r with tLatch := id } :=
    congrArg (s.retouch r).setTLatch hmillis
  have hgate : (s.retouch r).millis % (s.retouch r).cfg.reportInterval = s.millis % s.cfg.reportInterval :=
    congrArg (· % s.cfg.reportInterval) hmillis
  rw [reportBody_eq, reportBody_eq, hgate]
  split
  · rw [← txWriteThen_retouch]
    exact congrArg (txWriteThen (statusLine s.cfg s.pos) fail k .shift) hlatched
  · exact congrArg (State.setSeq · .shift) hlatched

/-- The events of MAIN that leave the clock alone commute with any change of it (R109). -/
theorem exec_retouch {i : Instr} (hmain : agentOf i = .main) (hcounter : touchesCounter i = false) (hirq : i ≠ .irqEn) :
    exec i (s.retouch r) = mapNext (State.retouch r) (exec i s) := by
  cases i with
  | reset | cmpMatch | tick | nowMillis => cases hmain
  | clockInit | report => cases hcounter
  | irqEn => exact absurd rfl hirq
  | acquire u => cases u <;> exact guarded_next_eq_mapNext rfl rfl
  | iocfg | sample => exact guarded_next_eq_mapNext rfl rfl
  | greet f k => exact guarded_next_eq_mapNext rfl (txWriteThen_retouch r s _ f k .sample)
  | decode => exact guarded_eq_mapNext rfl (applyOutcome_retouch r s _)
  | qdec => exact guarded_eq_mapNext rfl (applyOutcome_retouch r s .qdec)
  | qinc => exact guarded_eq_mapNext rfl (applyOutcome_retouch r s .qinc)
  | qnop q => exact guarded_eq_mapNext rfl (applyOutcome_retouch r s (.qnop q))
  | btnReset =>
    refine guarded_next_eq_mapNext rfl ?_
    rw [latch_retouch]
    cases s.latch .btn <;> rfl
  | shift =>
    refine guarded_next_eq_mapNext rfl ?_
    rw [changed_retouch]
    cases changed s <;> rfl

/-! The rest of the trace -/

/-- The state with another rest of the trace. -/
def State.withTrace (tr : List TraceEntry) (s : State) : State := s.retouch { trace := fun _ => tr }

variable (tr : List TraceEntry)

/-- No event reads the rest of the trace or writes it. -/
theorem exec_withTrace (i : Instr) : exec i (s.withTrace tr) = mapNext (State.withTrace tr) (exec i s) := by
  cases i with
  | reset => rfl
  | clockInit =>
    refine guarded_next_eq_mapNext rfl ?_
    rw [apply_ite (State.withTrace tr)]
    rfl
  | report f k => exact guarded_next_eq_mapNext rfl (reportBody_retouch _ s rfl f k)
  | irqEn | cmpMatch | tick | nowMillis => exact guarded_next_eq_mapNext rfl rfl
  | _ => exact exec_retouch _ s rfl rfl (fun h => by cases h)

end

end Sys2Proof.Machine
end

section
/-!
PROOFS. The step and the enabling of events (R7, R36, R71, R83, R87): every event is guarded by its row of the enabling
table, no event writes the parameters or reads the trace, and so a trace is well formed exactly when the machine runs
through it.
-/

namespace Sys2Proof.Machine

open Sys2Proof.Safety

section
variable {i : Instr} {s t : State} {e : TraceEntry} {rest : List TraceEntry} {r : Refusal}

/-! What a step takes -/

/-- A step under accepted parameters performs the event its next entry names, past that entry (R71). -/
theorem step_of_entry (hcfg : configAccepted s.cfg = true) (htrace : s.trace = e :: rest) (he : readEntry e = .ok i) :
    step s = exec i (s.consume rest) := by
  simp [step, fetch_eq_ok_iff.mpr ⟨hcfg, e, rest, htrace, he, rfl⟩]

theorem step_of_rejected_entry (hcfg : configAccepted s.cfg = true) (htrace : s.trace = e :: rest)
    (he : readEntry e = .error r) : step s = .refused r := by
  simp [step, fetch, hcfg, htrace, he]

theorem step_of_trace_nil (hcfg : configAccepted s.cfg = true) (htrace : s.trace = []) :
    step s = .refused .traceEnded := by
  simp [step, fetch, hcfg, htrace]

theorem step_of_rejected_config (hcfg : ¬configAccepted s.cfg = true) : step s = .refused .configRefused := by
  simp [step, fetch, hcfg]

theorem readEntry_word_of_decode {w : EventWord} (h : decode (.evt w) = .ok i) : readEntry (.word w) = .ok i :=
  readEntry_eq_ok_iff.mpr (.inl ⟨w, rfl, h⟩)

/-- An entry is never rejected for the parameters: those are tested before it is read. -/
theorem readEntry_ne_configRefused : readEntry e ≠ .error .configRefused := by
  cases e with
  | word w => cases h : decode (.evt w) <;> simp [readEntry, h]
  | greetFail k | reportFail k => simp [readEntry]

theorem configAccepted_iff (c : Config) :
    configAccepted c = true ↔
      1 ≤ c.wMs ∧ 1 ≤ c.inc ∧ c.inc < 2 ^ c.wMs ∧ c.inc * c.clockKhz = c.prescaler * c.compareValue ∧
        1 ≤ c.compareValue ∧ 1 ≤ c.clockKhz ∧ c.supportedPrescalers ≠ [] ∧ (∀ p ∈ c.supportedPrescalers, 1 ≤ p) ∧
        2 ≤ c.wPos ∧ 1 ≤ c.reportInterval := by
  simp [configAccepted, and_assoc]

/-! The enabling table -/

theorem decodeQ_eq_qdec_iff (v : QVec) : decodeQ v = .qdec ↔ v = 0x21 := by
  revert v; decide

theorem decodeQ_eq_qinc_iff (v : QVec) : decodeQ v = .qinc ↔ v = 0x12 := by
  revert v; decide

theorem decodeQ_eq_qnop_iff (v q : QVec) : decodeQ v = .qnop q ↔ v = q ∧ q ≠ 0x21 ∧ q ≠ 0x12 := by
  unfold decodeQ
  split
  · next h => simp only [reduceCtorEq, false_iff]; rintro ⟨rfl, hdec, -⟩; exact hdec h
  · next hdec =>
    split
    · next h => simp only [reduceCtorEq, false_iff]; rintro ⟨rfl, -, hinc⟩; exact hinc h
    · next hinc =>
      rw [Instr.qnop.injEq]
      exact ⟨fun h => ⟨h, h ▸ hdec, h ▸ hinc⟩, And.left⟩

/-- Every event is its effect behind its row of the enabling table (R87); only an outcome of DECODE can stop in it. -/
theorem exec_eq_guarded (i : Instr) (s : State) :
    ∃ r, exec i s = guarded (mnemonicOf i) (enabled i s) r ∧ ((∃ t, r = .next t) ∨ ∃ o, r = applyOutcome o s) := by
  cases i with
  | decode => exact ⟨_, rfl, .inr ⟨_, rfl⟩⟩
  | qdec =>
    exact ⟨_, congrArg (guarded "QDEC" · _) (by simp [enabled, atSeq, outcomeOf, decodeQ_eq_qdec_iff]),
      .inr ⟨_, rfl⟩⟩
  | qinc =>
    exact ⟨_, congrArg (guarded "QINC" · _) (by simp [enabled, atSeq, outcomeOf, decodeQ_eq_qinc_iff]),
      .inr ⟨_, rfl⟩⟩
  | qnop q =>
    exact ⟨_, congrArg (guarded "QNOP" · _) (by simp [enabled, atSeq, outcomeOf, decodeQ_eq_qnop_iff, Bool.and_assoc]),
      .inr ⟨_, rfl⟩⟩
  | report fail k => cases fail <;> exact ⟨_, rfl, .inl ⟨_, rfl⟩⟩
  | _ => exact ⟨_, rfl, .inl ⟨_, rfl⟩⟩

theorem exec_of_not_enabled (h : enabled i s = false) : exec i s = .refused (.notEnabled (mnemonicOf i)) := by
  obtain ⟨r, hr, -⟩ := exec_eq_guarded i s
  rw [hr, guarded_of_disabled h]

/-- Under the default POS_OVERFLOW an outcome never stops (U6). -/
theorem applyOutcome_of_wrap (o : Instr) (hwrap : s.cfg.posOverflow = .wrap) : ∃ t, applyOutcome o s = .next t := by
  by_cases ho : countOf o = 0
  · exact ⟨_, applyOutcome_of_not_counting ho⟩
  · exact ⟨_, applyOutcome_of_counting rfl ho hwrap⟩

theorem exec_of_enabled (h : enabled i s = true) (hwrap : s.cfg.posOverflow = .wrap) : ∃ t, exec i s = .next t := by
  obtain ⟨r, hr, hanswer⟩ := exec_eq_guarded i s
  rw [hr, guarded_of_enabled h]
  rcases hanswer with hnext | ⟨o, rfl⟩
  · exact hnext
  · exact applyOutcome_of_wrap o hwrap

/-- An outcome is never refused: its guard alone refuses. -/
theorem applyOutcome_ne_refused (o : Instr) : applyOutcome o s ≠ .refused r := by
  unfold applyOutcome stepPos
  split
  · simp
  · split <;> simp

/-- An event is refused for its enabling condition and for nothing else (R87). -/
theorem eq_notEnabled_of_exec_refused (h : exec i s = .refused r) : r = .notEnabled (mnemonicOf i) := by
  cases hen : enabled i s with
  | false => exact (Host.Outcome.refused.inj ((exec_of_not_enabled hen).symm.trans h)).symm
  | true =>
    obtain ⟨r', hr, hanswer⟩ := exec_eq_guarded i s
    rw [hr, guarded_of_enabled hen] at h
    rcases hanswer with ⟨t, rfl⟩ | ⟨o, rfl⟩
    · cases h
    · exact absurd h (applyOutcome_ne_refused o)

/-- The step refuses the parameters only where they are not accepted. -/
theorem step_ne_configRefused (hcfg : configAccepted s.cfg = true) : step s ≠ .refused .configRefused := by
  intro h
  cases htrace : s.trace with
  | nil => cases (step_of_trace_nil hcfg htrace).symm.trans h
  | cons e rest =>
    cases he : readEntry e with
    | ok i => cases eq_notEnabled_of_exec_refused ((step_of_entry hcfg htrace he).symm.trans h)
    | error r =>
      obtain rfl : r = .configRefused :=
        Host.Outcome.refused.inj ((step_of_rejected_entry hcfg htrace he).symm.trans h)
      exact readEntry_ne_configRefused he

/-! What no event writes -/

theorem Effect.sameModel (h : Effect s i t) : SameModel s t := by
  cases h <;> exact ⟨rfl, rfl, rfl⟩

theorem cfg_of_exec (h : exec i s = .next t) : t.cfg = s.cfg := (effect_of_exec h).sameModel.1

/-- A step that answers a next state took the first entry of the trace and no other. -/
theorem trace_of_step (h : step s = .next t) :
    t.cfg = s.cfg ∧ s.trace = s.trace.take 1 ++ t.trace ∧ t.eventNo = s.eventNo + 1 := by
  obtain ⟨i, s', hfetch, hexec⟩ := step_eq_next_iff.mp h
  obtain ⟨-, e, rest, htrace, -, rfl⟩ := fetch_eq_ok_iff.mp hfetch
  obtain ⟨hcfg, hrest, hno⟩ := (effect_of_exec hexec).sameModel
  exact ⟨hcfg, by rw [hrest, htrace]; rfl, hno⟩

end

/-! Runs through a trace -/

section
variable {s t : State} {r : Refusal} {n : Nat}

theorem run_succ_of_next (h : step s = .next t) : Host.Core.run core (n + 1) s = Host.Core.run core n t := by
  have hstep : core.step s = .next t := h
  simp only [Host.Core.run, hstep]

theorem run_succ_of_refused (h : step s = .refused r) : Host.Core.run core (n + 1) s = .refused r := by
  have hstep : core.step s = .refused r := h
  simp only [Host.Core.run, hstep]

end

/-- The state with one more entry counted as taken. -/
def State.countEntry (s : State) : State := { s with eventNo := s.eventNo + 1 }

section
variable {e : TraceEntry} {i : Instr} {rest : List TraceEntry} {s t : State} {r : Refusal}

theorem wellFormedTrace_cons_of_next (he : readEntry e = .ok i) (h : exec i s.countEntry = .next t) :
    wellFormedTrace (e :: rest) s = wellFormedTrace rest t := by
  rw [State.countEntry] at h
  simp [wellFormedTrace, he, h]

theorem wellFormedTrace_cons_of_refused (he : readEntry e = .ok i) (h : exec i s.countEntry = .refused r) :
    wellFormedTrace (e :: rest) s = false := by
  rw [State.countEntry] at h
  simp [wellFormedTrace, he, h]

end

/-- A trace is well formed and the machine runs through all of it, or it is not and the machine refuses it. -/
theorem wellFormedTrace_run (tr : List TraceEntry) (s : State) (hcfg : configAccepted s.cfg = true)
    (hwrap : s.cfg.posOverflow = .wrap) :
    (wellFormedTrace tr s = true ∧
      ∃ t, Host.Core.run core tr.length (s.withTrace tr) = .next t ∧ t.trace = []) ∨
    (wellFormedTrace tr s = false ∧ ∃ r, Host.Core.run core tr.length (s.withTrace tr) = .refused r) := by
  induction tr generalizing s with
  | nil => exact .inl ⟨rfl, _, rfl, rfl⟩
  | cons e rest ih =>
    cases he : readEntry e with
    | error r =>
      exact .inr ⟨by simp [wellFormedTrace, he], r, run_succ_of_refused (step_of_rejected_entry hcfg rfl he)⟩
    | ok i =>
      have hstep : step (s.withTrace (e :: rest)) = mapNext (State.withTrace rest) (exec i s.countEntry) :=
        (step_of_entry (s := s.withTrace (e :: rest)) hcfg rfl he).trans (exec_withTrace s.countEntry rest i)
      cases hen : enabled i s.countEntry with
      | false =>
        have hexec := exec_of_not_enabled hen
        rw [hexec] at hstep
        exact .inr ⟨wellFormedTrace_cons_of_refused he hexec, _, run_succ_of_refused hstep⟩
      | true =>
        obtain ⟨u, hexec⟩ := exec_of_enabled hen hwrap
        have hucfg : u.cfg = s.countEntry.cfg := cfg_of_exec hexec
        rw [hexec] at hstep
        rw [List.length_cons, run_succ_of_next hstep, wellFormedTrace_cons_of_next he hexec]
        exact ih u (hucfg ▸ hcfg) (hucfg ▸ hwrap)

/-! The obligations -/

/-- Settles O9: the guard of each event is its row of the table; a trace by induction, an entry at a time. -/
theorem eventsRunExactlyWhenEnabled : Obligations.EventsRunExactlyWhenEnabled := by
  refine ⟨fun i s => ⟨exec_of_enabled, exec_of_not_enabled⟩, fun s hcfg hwrap => ?_⟩
  have hself : s.withTrace s.trace = s := rfl
  rcases wellFormedTrace_run s.trace s hcfg hwrap with ⟨hwf, t, hrun, htrace⟩ | ⟨hwf, r, hrun⟩
  · rw [hself] at hrun
    simp [hwf, hrun, htrace]
  · rw [hself] at hrun
    simp [hwf, hrun]

/-- Settles O10: no effect touches the model's own fields, and the step alone consumes an entry. -/
theorem parametersAreNeverWritten : Obligations.ParametersAreNeverWritten :=
  ⟨fun _ _ _ h => (effect_of_exec h).sameModel, fun _ _ => trace_of_step⟩

/-- Settles O6: each vector decodes by evaluation. -/
theorem specWordsDecode : Obligations.SpecWordsDecode := by
  unfold Obligations.SpecWordsDecode
  decide

/-- Settles O7: the entry names the event, and a word that decodes is an encoding. -/
theorem stepRunsTheDecodedEvent : Obligations.StepRunsTheDecodedEvent :=
  ⟨fun _ w _ i hcfg htrace h =>
      ⟨(encodeOfDecodeIsIdentity (.evt w) i h).1, step_of_entry hcfg htrace (readEntry_word_of_decode h)⟩,
    fun _ _ _ hcfg htrace => step_of_entry hcfg htrace rfl, fun _ _ _ hcfg htrace => step_of_entry hcfg htrace rfl⟩

/-- Settles O8: the fetch tests the parameters first, and no other refusal is for them. -/
theorem rejectedConfigurationsNeverStep : Obligations.RejectedConfigurationsNeverStep := by
  refine fun s => ⟨?_, step_of_trace_nil⟩
  rw [← configAccepted_iff]
  exact ⟨fun h hcfg => step_ne_configRefused hcfg h, step_of_rejected_config⟩

end Sys2Proof.Machine
end

section
/-!
PROOFS. The arithmetic of R8 and the invariant of the block (10_state.md R21 to R31): RESET gives it, and each of its
parts is kept by every other event.
-/

namespace Sys2Proof.Machine

open Sys2Proof.Safety

/-! Wrapping (R8) -/

theorem addU_eq_bitVec (n a b : Nat) : addU n a b = (BitVec.ofNat n a + BitVec.ofNat n b).toNat := by
  rw [← BitVec.ofNat_add, BitVec.toNat_ofNat, addU]

theorem wrapS_eq_bitVec (n : Nat) (v : Int) : wrapS n v = (BitVec.ofInt n v).toInt :=
  (BitVec.toInt_ofInt v).symm

theorem fitsS_wrapS {n : Nat} (hn : 1 ≤ n) (v : Int) : fitsS n (wrapS n v) = true := by
  have hpow := two_pow_eq_two_mul hn
  have hpos : 0 < 2 ^ n := Nat.two_pow_pos n
  have hlow := Int.le_bmod (x := v) hpos
  have hhigh := Int.bmod_lt (x := v) hpos
  rw [fitsS_iff]
  unfold wrapS
  omega

theorem fitsS_zero (n : Nat) : fitsS n 0 = true := by
  rw [fitsS_iff]
  have hpos : (0 : Int) < 2 ^ (n - 1) := by positivity
  omega

/-! RESET -/

theorem blockInv_resetBlock {s : State} (hcfg : configAccepted s.cfg = true) : BlockInv (resetBlock s) where
  config := hcfg
  millisRange := Nat.two_pow_pos _
  millisLattice := Nat.dvd_zero _
  posRange := fitsS_zero _
  latchRange := fun _ h => by cases h
  faultIffHalt := by simp [resetBlock, State.reset]
  latchesWritten := fun h => by cases h
  historyDistinct := .inr ⟨rfl, rfl, rfl, rfl⟩
  bootQuiet := fun _ => ⟨rfl, rfl, rfl, rfl⟩
  bootMasked := fun h => by cases h
  loopEnabled := fun h => by cases h
  armed := by simp [resetBlock, State.reset]
  bootClean := fun _ => ⟨rfl, rfl, rfl, rfl, rfl, rfl⟩

/-! What every other event keeps, part by part -/

namespace Effect

variable {i : Instr} {s t : State}

theorem keeps_millisRange (h : Effect s i t) (hi : i ≠ .reset) (hinv : BlockInv s) : t.millis < 2 ^ t.cfg.wMs := by
  cases h with
  | reset => exact absurd rfl hi
  | started => exact Nat.two_pow_pos _
  | ticked => exact Nat.mod_lt _ (Nat.two_pow_pos _)
  | _ => exact hinv.millisRange

/-- INC and 2^W_MS lie in the subgroup, so the sum of R59 does (R108). -/
theorem keeps_millisLattice (h : Effect s i t) (hi : i ≠ .reset) (hinv : BlockInv s) :
    Nat.gcd t.cfg.inc (2 ^ t.cfg.wMs) ∣ t.millis := by
  cases h with
  | reset => exact absurd rfl hi
  | started => exact Nat.dvd_zero _
  | ticked =>
    exact (Nat.dvd_mod_iff (Nat.gcd_dvd_right _ _)).mpr (Nat.dvd_add hinv.millisLattice (Nat.gcd_dvd_left _ _))
  | _ => exact hinv.millisLattice

theorem keeps_posRange (h : Effect s i t) (hi : i ≠ .reset) (hinv : BlockInv s) : fitsS t.cfg.wPos t.pos = true := by
  cases h with
  | reset => exact absurd rfl hi
  | counted =>
    obtain ⟨-, -, -, -, -, -, -, -, hw, -⟩ := (configAccepted_iff s.cfg).mp hinv.config
    exact fitsS_wrapS (Nat.le_of_succ_le hw) _
  | button =>
    cases hbtn : s.latch .btn with
    | false => exact hinv.posRange
    | true => exact fitsS_zero _
  | _ => exact hinv.posRange

theorem keeps_latchRange (h : Effect s i t) (hi : i ≠ .reset) (hinv : BlockInv s) :
    ∀ v, t.tLatch = some v → v < 2 ^ t.cfg.wMs := by
  have hread : ∀ v, some s.millis = some v → v < 2 ^ s.cfg.wMs := fun _ hv => Option.some.inj hv ▸ hinv.millisRange
  cases h with
  | reset => exact absurd rfl hi
  | quiet | reported | reportFailed | probed => exact hread
  | _ => exact hinv.latchRange

theorem keeps_faultIffHalt (h : Effect s i t) (hi : i ≠ .reset) (hinv : BlockInv s) :
    t.fault ≠ .none ↔ t.seq = .halt := by
  have hrun : s.seq ≠ .halt → s.fault = .none := fun hs => by_contra fun hf => hs (hinv.faultIffHalt.mp hf)
  cases h with
  | reset => exact absurd rfl hi
  | unavailable | unsupported | greetFailed | reportFailed => simp
  | edge | ticked | probed => exact hinv.faultIffHalt
  | counted j d hj hs => simp [hrun (by simp [hs])]
  | notCounted j hj hs => simp [hrun (by simp [hs])]
  | acquired hs | configured hs | started hs | enabled hs | greeted _ hs | sampled _ _ _ hs | button hs | quiet _ hs
  | reported _ hs | shifted hs | kept hs => simp [hrun (by simp [hs])]

/-- SAMPLE writes the latches, and the iteration after it keeps them (R24). -/
theorem keeps_latchesWritten (h : Effect s i t) (hi : i ≠ .reset) (hinv : BlockInv s) (ht : afterSample t.seq = true) :
    t.sBtn.isSome = true ∧ t.sA.isSome = true ∧ t.sB.isSome = true := by
  cases h with
  | reset => exact absurd rfl hi
  | sampled => exact ⟨rfl, rfl, rfl⟩
  | counted _ _ _ hs | notCounted _ _ hs | button hs | quiet _ hs | reported _ hs =>
    exact hinv.latchesWritten (by rw [hs]; rfl)
  | edge | ticked | probed => exact hinv.latchesWritten ht
  | _ => cases ht

/-- SHIFT moves the history where the fresh pair differs from the one-back pair, which becomes the two-back pair. -/
theorem keeps_historyDistinct (h : Effect s i t) (hi : i ≠ .reset) (hinv : BlockInv s) :
    (t.prevA, t.prevB) ≠ (t.curA, t.curB) ∨
      (t.curA = false ∧ t.curB = false ∧ t.prevA = false ∧ t.prevB = false) := by
  cases h with
  | reset => exact absurd rfl hi
  | shifted hs hc =>
    refine .inl fun heq => ?_
    obtain ⟨ha, hb⟩ := Prod.mk.inj heq
    exact ((changed_iff s).mp hc).elim (absurd ha.symm) (absurd hb.symm)
  | _ => exact hinv.historyDistinct

theorem keeps_bootQuiet (h : Effect s i t) (hi : i ≠ .reset) (hinv : BlockInv s) (ht : beforeClockInit t.seq = true) :
    t.tmrRun = false ∧ t.gie = false ∧ t.irqPend = false ∧ t.millis = 0 := by
  cases h with
  | reset => exact absurd rfl hi
  | acquired hs | configured hs => exact hinv.bootQuiet (by rw [hs]; rfl)
  | edge htmr =>
    obtain ⟨hstopped, -⟩ := hinv.bootQuiet ht
    simp [hstopped] at htmr
  | ticked hpend hgie =>
    obtain ⟨-, hmasked, -⟩ := hinv.bootQuiet ht
    simp [hmasked] at hgie
  | probed => exact hinv.bootQuiet ht
  | _ => cases ht

theorem keeps_bootMasked (h : Effect s i t) (hi : i ≠ .reset) (hinv : BlockInv s) (ht : t.seq = .irqEn) :
    t.tmrRun = true ∧ t.gie = false ∧ t.millis = 0 := by
  cases h with
  | reset => exact absurd rfl hi
  | started hs =>
    obtain ⟨-, hmasked, -⟩ := hinv.bootQuiet (by rw [hs]; rfl)
    exact ⟨rfl, hmasked, rfl⟩
  | ticked hpend hgie =>
    obtain ⟨-, hmasked, -⟩ := hinv.bootMasked ht
    simp [hmasked] at hgie
  | edge | probed => exact hinv.bootMasked ht
  | _ => cases ht

theorem keeps_loopEnabled (h : Effect s i t) (hi : i ≠ .reset) (hinv : BlockInv s) (ht : afterIrqEn t.seq = true) :
    t.tmrRun = true ∧ t.gie = true := by
  cases h with
  | reset => exact absurd rfl hi
  | enabled hs => exact ⟨(hinv.bootMasked hs).1, rfl⟩
  | greeted _ hs | sampled _ _ _ hs | counted _ _ _ hs | notCounted _ _ hs | button hs | quiet _ hs | reported _ hs
  | shifted hs | kept hs => exact hinv.loopEnabled (by rw [hs]; rfl)
  | edge | ticked | probed => exact hinv.loopEnabled ht
  | _ => cases ht

theorem keeps_armed (h : Effect s i t) (hi : i ≠ .reset) (hinv : BlockInv s) :
    t.irqPend = true ∨ t.gie = true → t.tmrRun = true := by
  cases h with
  | reset => exact absurd rfl hi
  | started => exact fun _ => rfl
  | enabled hs => exact fun _ => (hinv.bootMasked hs).1
  | edge htmr => exact fun _ => htmr
  | ticked hpend => exact fun _ => hinv.armed (.inl hpend)
  | _ => exact hinv.armed

theorem keeps_bootClean (h : Effect s i t) (hi : i ≠ .reset) (hinv : BlockInv s) (ht : inBoot t.seq = true) :
    t.tx = [] ∧ t.pos = 0 ∧ t.curA = false ∧ t.curB = false ∧ t.prevA = false ∧ t.prevB = false := by
  cases h with
  | reset => exact absurd rfl hi
  | acquired hs | configured hs | started hs | enabled hs => exact hinv.bootClean (by rw [hs]; rfl)
  | edge | ticked | probed => exact hinv.bootClean ht
  | _ => cases ht

end Effect

/-! The whole invariant -/

section
variable {i : Instr} {s t : State}

theorem blockInv_of_exec (hinv : BlockInv s) (h : exec i s = .next t) : BlockInv t := by
  by_cases hi : i = .reset
  · subst hi
    cases (exec_reset s).symm.trans h
    exact blockInv_resetBlock hinv.config
  · have heffect := effect_of_exec h
    exact
      { config := cfg_of_exec h ▸ hinv.config
        millisRange := heffect.keeps_millisRange hi hinv
        millisLattice := heffect.keeps_millisLattice hi hinv
        posRange := heffect.keeps_posRange hi hinv
        latchRange := heffect.keeps_latchRange hi hinv
        faultIffHalt := heffect.keeps_faultIffHalt hi hinv
        latchesWritten := heffect.keeps_latchesWritten hi hinv
        historyDistinct := heffect.keeps_historyDistinct hi hinv
        bootQuiet := heffect.keeps_bootQuiet hi hinv
        bootMasked := heffect.keeps_bootMasked hi hinv
        loopEnabled := heffect.keeps_loopEnabled hi hinv
        armed := heffect.keeps_armed hi hinv
        bootClean := heffect.keeps_bootClean hi hinv }

/-- The invariant does not speak of the trace or of the count of events taken. -/
theorem blockInv_consume (hinv : BlockInv s) (rest : List TraceEntry) : BlockInv (s.consume rest) :=
  ⟨hinv.config, hinv.millisRange, hinv.millisLattice, hinv.posRange, hinv.latchRange, hinv.faultIffHalt,
    hinv.latchesWritten, hinv.historyDistinct, hinv.bootQuiet, hinv.bootMasked, hinv.loopEnabled, hinv.armed,
    hinv.bootClean⟩

end

/-! The obligations -/

/-- Settles O58: both operations are those of the library's bit vectors, and a reading of N bits is in range. -/
theorem wrappingIsModular : Obligations.WrappingIsModular :=
  ⟨addU_eq_bitVec, wrapS_eq_bitVec, fun _ v hn => fitsS_wrapS hn v⟩

/-- Settles O59: the reset state is the reset block under the reference parameters, which are accepted. -/
theorem resetMeetsTheBlockInvariant : Obligations.ResetMeetsTheBlockInvariant :=
  blockInv_resetBlock (s := State.reset) (by decide)

/-- Settles O60: a step takes an entry, which the invariant does not see, and performs an event, which keeps each of
its parts. -/
theorem everyStepKeepsTheBlockInvariant : Obligations.EveryStepKeepsTheBlockInvariant := by
  intro s t hinv h
  obtain ⟨i, s', hfetch, hexec⟩ := step_eq_next_iff.mp h
  obtain ⟨-, e, rest, -, -, rfl⟩ := fetch_eq_ok_iff.mp hfetch
  exact blockInv_of_exec (blockInv_consume hinv rest) hexec

end Sys2Proof.Machine
end

section
/-!
PROOFS. The sequencer (10_state.md R27) and the table of writers (R20): which event may run where, where it leaves SEQ,
and which elements each event writes.
-/

namespace Sys2Proof.Machine

open Sys2Proof.Safety

section
variable {i : Instr} {s t : State}

/-! The sequencer -/

/-- A MAIN event runs where SEQ names it, an outcome of DECODE where SEQ names DECODE. -/
theorem Effect.named (h : Effect s i t) (hmain : agentOf i = .main) :
    ∃ j, namedEvent false false false s.seq = some j ∧
      (mnemonicOf j = mnemonicOf i ∨ (j = .decode ∧ (i = .qdec ∨ i = .qinc ∨ ∃ q, i = .qnop q))) := by
  cases h with
  | reset | edge | ticked | probed => cases hmain
  | counted j d hj hs =>
    rw [hs]
    rcases hj with rfl | hj | hj
    · exact ⟨_, rfl, .inl rfl⟩
    · exact ⟨_, rfl, .inr ⟨rfl, .inl hj⟩⟩
    · exact ⟨_, rfl, .inr ⟨rfl, .inr (.inl hj)⟩⟩
  | notCounted j hj hs =>
    rw [hs]
    rcases hj with rfl | hj
    · exact ⟨_, rfl, .inl rfl⟩
    · exact ⟨_, rfl, .inr ⟨rfl, .inr (.inr hj)⟩⟩
  | acquired hs | unavailable hs | configured hs | started hs | unsupported hs | enabled hs | greeted _ hs
  | greetFailed _ hs | sampled _ _ _ hs | button hs | quiet _ hs | reported _ hs | reportFailed _ hs | shifted hs
  | kept hs =>
    rw [hs]
    exact ⟨_, rfl, .inl rfl⟩

theorem Effect.seq_ne_halt (h : Effect s i t) (hmain : agentOf i = .main) : s.seq ≠ .halt := by
  intro hs
  obtain ⟨j, hj, -⟩ := h.named hmain
  rw [hs] at hj
  cases hj

/-- A MAIN event moves SEQ to its successor, or it records its fault and moves to HALT. -/
theorem Effect.seq_moves (h : Effect s i t) (hmain : agentOf i = .main) :
    (t.seq = successor s.seq ∧ t.fault = s.fault) ∨
      (t.seq = .halt ∧
        ((s.seq = .acquire ∧ t.fault = .peripheralUnavailable) ∨ (s.seq = .clockInit ∧ t.fault = .configError) ∨
          ((s.seq = .greet ∨ s.seq = .report) ∧ t.fault = .outputWriteFailure))) := by
  cases h with
  | reset | edge | ticked | probed => cases hmain
  | unavailable hs => exact .inr ⟨rfl, .inl ⟨hs, rfl⟩⟩
  | unsupported hs => exact .inr ⟨rfl, .inr (.inl ⟨hs, rfl⟩)⟩
  | greetFailed _ hs => exact .inr ⟨rfl, .inr (.inr ⟨.inl hs, rfl⟩)⟩
  | reportFailed _ hs => exact .inr ⟨rfl, .inr (.inr ⟨.inr hs, rfl⟩)⟩
  | acquired hs | configured hs | started hs | enabled hs | greeted _ hs | sampled _ _ _ hs | counted _ _ _ hs
  | notCounted _ _ hs | button hs | quiet _ hs | reported _ hs | shifted hs | kept hs =>
    exact .inl ⟨by rw [hs]; rfl, rfl⟩

theorem Effect.seq_kept (h : Effect s i t) (hmain : agentOf i ≠ .main) (hi : i ≠ .reset) : t.seq = s.seq := by
  cases h with
  | reset => exact absurd rfl hi
  | edge | ticked | probed => rfl
  | counted j d hj => rcases hj with rfl | rfl | rfl <;> exact absurd rfl hmain
  | notCounted j hj => rcases hj with rfl | ⟨q, rfl⟩ <;> exact absurd rfl hmain
  | _ => exact absurd rfl hmain

/-! Writers -/

theorem Effect.history_kept (h : Effect s i t) (hi : i ≠ .reset) (hshift : i ≠ .shift) :
    (t.curA, t.curB, t.prevA, t.prevB) = (s.curA, s.curB, s.prevA, s.prevB) := by
  cases h with
  | reset => exact absurd rfl hi
  | shifted => exact absurd rfl hshift
  | _ => rfl

theorem Effect.pos_kept_or_writer (h : Effect s i t) (hi : i ≠ .reset) :
    t.pos = s.pos ∨ i = .decode ∨ i = .qdec ∨ i = .qinc ∨ i = .btnReset := by
  cases h with
  | reset => exact absurd rfl hi
  | counted j d hj => tauto
  | button => tauto
  | _ => exact .inl rfl

theorem Effect.samples_kept_or_writer (h : Effect s i t) (hi : i ≠ .reset) :
    (t.sBtn, t.sA, t.sB) = (s.sBtn, s.sA, s.sB) ∨ ∃ btn a b, i = .sample btn a b := by
  cases h with
  | reset => exact absurd rfl hi
  | sampled => exact .inr ⟨_, _, _, rfl⟩
  | _ => exact .inl rfl

theorem Effect.tLatch_kept_or_writer (h : Effect s i t) (hi : i ≠ .reset) :
    t.tLatch = s.tLatch ∨ i = .nowMillis ∨ ∃ f k, i = .report f k := by
  cases h with
  | reset => exact absurd rfl hi
  | probed => exact .inr (.inl rfl)
  | quiet | reported | reportFailed => exact .inr (.inr ⟨_, _, rfl⟩)
  | _ => exact .inl rfl

/-- An event keeps TMR_RUN, or it is RESET and clears it, or it is CLOCK_INIT and sets it (R30). -/
theorem Effect.tmrRun_cases (h : Effect s i t) :
    t.tmrRun = s.tmrRun ∨ (i = .reset ∧ t.tmrRun = false) ∨ (i = .clockInit ∧ t.tmrRun = true) := by
  cases h with
  | reset => exact .inr (.inl ⟨rfl, rfl⟩)
  | started => exact .inr (.inr ⟨rfl, rfl⟩)
  | _ => exact .inl rfl

/-- An event with a row in the table of faults is one of the four that write FAULT (R151). -/
theorem FaultCause.writer {c : FatalCode} (h : FaultCause s i c) :
    i = .clockInit ∨ (∃ u, i = .acquire u) ∨ (∃ f k, i = .greet f k) ∨ ∃ f k, i = .report f k := by
  cases h with
  | unsupported => exact .inl rfl
  | unavailable => exact .inr (.inl ⟨_, rfl⟩)
  | greetFailed => exact .inr (.inr (.inl ⟨_, _, rfl⟩))
  | reportFailed => exact .inr (.inr (.inr ⟨_, _, rfl⟩))

/-- IRQ_EN sets GIE, so it leaves it true. -/
theorem eq_reset_of_gie_cleared (h : exec i s = .next t) (hs : s.gie = true) (ht : t.gie = false) : i = .reset := by
  rcases (effect_of_exec h).gie_cases with hkept | ⟨hreset, -⟩ | rfl
  · simp [hkept, hs] at ht
  · exact hreset
  · obtain ⟨-, rfl⟩ := execIrqEn_next h
    cases ht

end

/-! The obligations -/

/-- Settles O27: the effects on GIE and on TMR_RUN, one event at a time. -/
theorem enablesAreClearedByResetOnly : Obligations.EnablesAreClearedByResetOnly := by
  refine fun i s t h => ⟨eq_reset_of_gie_cleared h, fun hs ht => ?_, fun hs ht => ?_⟩
  · rcases (effect_of_exec h).tmrRun_cases with hkept | ⟨hreset, -⟩ | ⟨-, hset⟩
    · simp [hkept, hs] at ht
    · exact hreset
    · simp [hset] at ht
  · rcases (effect_of_exec h).tmrRun_cases with hkept | ⟨-, hcleared⟩ | ⟨hinit, -⟩
    · simp [hkept, hs] at ht
    · simp [hcleared] at ht
    · exact hinit

/-- Settles O53: the name and the successor of each effect of MAIN; the other agents' effects leave SEQ. -/
theorem sequencerFollowsTheTable : Obligations.SequencerFollowsTheTable := by
  intro i s t h
  have heffect := effect_of_exec h
  exact ⟨fun hmain => ⟨heffect.seq_ne_halt hmain, heffect.named hmain, heffect.seq_moves hmain⟩, heffect.seq_kept⟩

/-- Settles O54: each element's lemma says that it is kept or that a writer of the table ran. -/
theorem elementsChangeUnderTheirWritersOnly : Obligations.ElementsChangeUnderTheirWritersOnly := by
  intro i s t h hi
  have heffect := effect_of_exec h
  refine ⟨fun _ hne => ?_, fun hne => by_contra fun hshift => hne (heffect.history_kept hi hshift),
    (heffect.pos_kept_or_writer hi).resolve_left, (heffect.samples_kept_or_writer hi).resolve_left,
    (heffect.tLatch_kept_or_writer hi).resolve_left, fun hne => ?_, fun hne => ?_, fun hne => ?_,
    fun hne => by_contra fun hmain => hne (heffect.seq_kept hmain hi), fun hne => ?_, fun hne => ?_⟩
  · rcases heffect.millis_cases.resolve_left hne with htick | ⟨hreset | hinit, -⟩
    · exact .inl htick
    · exact absurd hreset hi
    · exact .inr hinit
  · rcases heffect.gie_cases.resolve_left hne with ⟨hreset, -⟩ | henable
    · exact absurd hreset hi
    · exact henable
  · by_contra hwriter
    obtain ⟨hedge, htick⟩ := not_or.mp hwriter
    exact hne (heffect.irqPend_kept hedge htick hi)
  · rcases heffect.tmrRun_cases.resolve_left hne with ⟨hreset, -⟩ | ⟨hinit, -⟩
    · exact absurd hreset hi
    · exact hinit
  · rcases heffect.fault_cases.resolve_left hne with ⟨hreset, -⟩ | hcause
    · exact absurd hreset hi
    · exact hcause.writer
  · exact ((heffect.tx_kept_or_appended hi).resolve_left hne).1

end Sys2Proof.Machine
end

section
/-!
PROOFS. The Millisecond Clock along a run (40_clock.md R103 to R108, 20_memory.md R58 to R63) and the boot sequence
(42_boot.md R149).
-/

namespace Sys2Proof.Machine

open Sys2Proof.Safety

section
variable {i : Instr} {s t u : State} {events : List Instr}

/-! Runs one event or one part at a time -/

theorem runEvents_cons_of_next (h : exec i s = .next u) (rest : List Instr) :
    runEvents (i :: rest) s = runEvents rest u := by
  simp only [runEvents, h]

theorem runEvents_singleton (i : Instr) (s : State) : runEvents [i] s = exec i s := by
  simp only [runEvents]
  cases exec i s <;> rfl

theorem runEvents_append_of_next (h : runEvents events s = .next u) (rest : List Instr) :
    runEvents (events ++ rest) s = runEvents rest u := by
  induction events generalizing s with
  | nil => cases h; rfl
  | cons i events ih =>
    obtain ⟨v, hexec, hrun⟩ := runEvents_cons_eq_next_iff.mp h
    rw [List.cons_append, runEvents_cons_of_next hexec, ih hrun]

/-! The boot sequence -/

/-- The state in which a fault-free boot leaves the reset block: armed, enabled, the greeting written (R149). -/
def bootedState (s : State) : State :=
  { resetBlock s with tmrRun := true, gie := true, tx := s.cfg.greeting, seq := .sample }

theorem runEvents_boot (hp : s.cfg.prescaler ∈ s.cfg.supportedPrescalers) :
    runEvents (.reset :: bootEvents) s = .next (bootedState s) := by
  refine (runEvents_cons_of_next (exec_reset s) _).trans ?_
  refine (runEvents_cons_of_next (exec_acquire_of_available rfl) _).trans ?_
  refine (runEvents_cons_of_next (exec_iocfg_of_seq rfl) _).trans ?_
  have hinit := exec_clockInit_of_supported (s := { resetBlock s with seq := .clockInit }) rfl hp
  refine (runEvents_cons_of_next hinit _).trans ?_
  refine (runEvents_cons_of_next (exec_irqEn_of_seq rfl) _).trans ?_
  exact runEvents_cons_of_next (exec_greet_of_seq 0 rfl) []

/-! Edges and ticks -/

/-- However many edges come, one is latched (R29). -/
theorem runEvents_edges (n : Nat) (ht : s.tmrRun = true) (hs : s.seq ≠ .halt) :
    runEvents (List.replicate (n + 1) .cmpMatch) s = .next { s with irqPend := true } := by
  induction n generalizing s with
  | zero => exact runEvents_cons_of_next (exec_cmpMatch_of_armed ht hs) []
  | succ n ih =>
    rw [List.replicate_succ, runEvents_cons_of_next (exec_cmpMatch_of_armed ht hs)]
    exact ih (s := { s with irqPend := true }) ht hs

theorem runEvents_irq (ht : s.tmrRun = true) (hg : s.gie = true) (hs : s.seq ≠ .halt) :
    runEvents irqEvents s =
      .next { s with millis := (s.millis + s.cfg.inc) % 2 ^ s.cfg.wMs, irqPend := false } := by
  rw [irqEvents, runEvents_cons_of_next (exec_cmpMatch_of_armed ht hs)]
  exact runEvents_cons_of_next (exec_tick_of_pending (s := { s with irqPend := true }) rfl hg hs) []

/-- n interrupts add n INC on the ring and leave the rest, but for the latched edge (R108). -/
theorem runEvents_irqTimes (n : Nat) (ht : s.tmrRun = true) (hg : s.gie = true) (hs : s.seq ≠ .halt)
    (hm : s.millis < 2 ^ s.cfg.wMs) :
    ∃ p, runEvents (irqTimes n) s =
      .next { s with millis := (s.millis + n * s.cfg.inc) % 2 ^ s.cfg.wMs, irqPend := p } := by
  induction n generalizing s with
  | zero => exact ⟨s.irqPend, by simp [irqTimes, runEvents, Nat.mod_eq_of_lt hm]⟩
  | succ n ih =>
    obtain ⟨p, hp⟩ := ih (s := { s with millis := (s.millis + s.cfg.inc) % 2 ^ s.cfg.wMs, irqPend := false }) ht hg hs
      (Nat.mod_lt _ (Nat.two_pow_pos _))
    refine ⟨p, ?_⟩
    rw [irqTimes, runEvents_append_of_next (runEvents_irq ht hg hs), hp, Nat.mod_add_mod, Nat.succ_mul,
      Nat.add_comm (n * s.cfg.inc), ← Nat.add_assoc]

/-! The count law -/

/-- CLOCK_INIT is behind for good once it has run: no event but RESET leads back before it (R27). -/
theorem Effect.beforeClockInit_kept (h : Effect s i t) (hi : i ≠ .reset) (hs : beforeClockInit s.seq = false) :
    beforeClockInit t.seq = false := by
  cases h with
  | reset => exact absurd rfl hi
  | acquired hq | configured hq => simp [hq, beforeClockInit] at hs
  | edge | ticked | probed => exact hs
  | _ => rfl

/-- Past CLOCK_INIT an event but RESET adds INC to MILLIS if it is a TICK, and else leaves it (R107). -/
theorem Effect.millis_of_pastClockInit (h : Effect s i t) (hi : i ≠ .reset) (hs : beforeClockInit s.seq = false) :
    (i = .tick ∧ t.millis = (s.millis + s.cfg.inc) % 2 ^ s.cfg.wMs) ∨ (i ≠ .tick ∧ t.millis = s.millis) := by
  cases h with
  | reset => exact absurd rfl hi
  | started hq => simp [hq, beforeClockInit] at hs
  | ticked => exact .inl ⟨rfl, rfl⟩
  | counted j d hj => exact .inr ⟨by rcases hj with rfl | rfl | rfl <;> decide, rfl⟩
  | notCounted j hj => exact .inr ⟨by rcases hj with rfl | ⟨q, rfl⟩ <;> simp, rfl⟩
  | _ => exact .inr ⟨by simp, rfl⟩

/-- A run past CLOCK_INIT that starts at the count of `n` TICKs ends at the count with its own TICKs. -/
theorem millis_of_run_pastClockInit (n : Nat) (hrun : runEvents events s = .next t) (hreset : .reset ∉ events)
    (hs : beforeClockInit s.seq = false) (hm : s.millis = (n * s.cfg.inc) % 2 ^ s.cfg.wMs) :
    t.millis = ((n + occurrences .tick events) * s.cfg.inc) % 2 ^ s.cfg.wMs := by
  induction events generalizing s n with
  | nil => cases hrun; exact hm
  | cons i rest ih =>
    obtain ⟨hi, hrest⟩ := not_or.mp (List.mem_cons.not.mp hreset)
    obtain ⟨v, hexec, hafter⟩ := runEvents_cons_eq_next_iff.mp hrun
    have heffect := effect_of_exec hexec
    have hpast := heffect.beforeClockInit_kept (Ne.symm hi) hs
    have hcfg := cfg_of_exec hexec
    rcases heffect.millis_of_pastClockInit (Ne.symm hi) hs with ⟨rfl, hv⟩ | ⟨htick, hv⟩
    · have hcount : v.millis = ((n + 1) * v.cfg.inc) % 2 ^ v.cfg.wMs := by
        rw [hv, hm, hcfg, Nat.mod_add_mod, Nat.succ_mul]
      rw [ih (n + 1) hafter hrest hpast hcount, hcfg, occurrences, occurrences, List.count_cons_self, Nat.add_assoc,
        Nat.add_comm 1]
    · have hcount : v.millis = (n * v.cfg.inc) % 2 ^ v.cfg.wMs := by rw [hv, hm, hcfg]
      rw [ih n hafter hrest hpast hcount, hcfg, occurrences, occurrences, List.count_cons_of_ne htick]

/-! The masked read in parts -/

/-- With GIE false an injected interrupt latches its edge, where the timer is armed, and no more (R63). -/
theorem injectIrq_of_masked (hg : s.gie = false) :
    injectIrq s = { s with irqPend := s.irqPend || (s.tmrRun && decide (s.seq ≠ .halt)) } := by
  have hmasked (p : Bool) : tickEnabled { s with irqPend := p } = false := by simp [tickEnabled, hg]
  cases harmed : s.tmrRun && decide (s.seq ≠ .halt) with
  | false =>
    have hedge : edgeEnabled s = false := harmed
    simp [injectIrq, hedge, hmasked s.irqPend]
  | true =>
    have hedge : edgeEnabled s = true := harmed
    simp [injectIrq, hedge, latchEdge_eq, hmasked true]

/-- The parts from part `i` on, read with GIE false, assemble the bits of MILLIS from part `i` on, and the injected
edges are latched. -/
theorem readParts_of_masked (d : Nat) (inj : List Bool) (i : Nat) (hg : s.gie = false) :
    readParts d inj i s =
      (s.millis / 2 ^ (d * i) % 2 ^ (d * inj.length) * 2 ^ (d * i),
        { s with irqPend := s.irqPend || (inj.any id && s.tmrRun && decide (s.seq ≠ .halt)) }) := by
  induction inj generalizing i s with
  | nil => simp [readParts, Nat.mod_one]
  | cons hit rest ih =>
    have hparts (m : Nat) : m / 2 ^ (d * i) % 2 ^ d * 2 ^ (d * i) +
        m / 2 ^ (d * (i + 1)) % 2 ^ (d * rest.length) * 2 ^ (d * (i + 1)) =
          m / 2 ^ (d * i) % 2 ^ (d * (rest.length + 1)) * 2 ^ (d * i) := by
      rw [Nat.mul_succ d rest.length, Nat.add_comm (d * rest.length), Nat.pow_add 2 d, Nat.mod_mul, Nat.mul_succ d i,
        Nat.pow_add, ← Nat.div_div_eq_div_mul]
      ring
    cases hit with
    | false => simp [readParts, ih (i + 1) hg, partOf, hparts]
    | true =>
      have habsorb : ∀ p q r : Bool, (p || q || (r && q)) = (p || q) := by decide
      rw [readParts, if_pos rfl, injectIrq_of_masked hg,
        ih (s := { s with irqPend := s.irqPend || (s.tmrRun && decide (s.seq ≠ .halt)) }) (i + 1) hg]
      simp [partOf, hparts, Bool.and_assoc, habsorb]

/-- The masked read assembles MILLIS modulo the width of its parts, and restores GIE (R58, R63). -/
theorem maskedRead_eq (d : Nat) (inj : List Bool) (s : State) :
    maskedRead d inj s =
      (s.millis % 2 ^ (d * inj.length),
        { s with irqPend := s.irqPend || (inj.any id && s.tmrRun && decide (s.seq ≠ .halt)) }) := by
  rw [maskedRead, readParts_of_masked d inj 0 rfl]
  simp only [Nat.mul_zero, Nat.pow_zero, Nat.div_one, Nat.mul_one]
  rfl

end

/-! Fairness (R103) -/

section
variable {events : Nat → Instr} {states : Nat → State} {n m : Nat}

theorem effect_at (hrun : InfiniteRun events states) (n : Nat) : Effect (states n) (events n) (states (n + 1)) :=
  effect_of_exec (hrun n)

/-- In a run with no RESET interrupts once enabled stay so (R28). -/
theorem gie_from (hrun : InfiniteRun events states) (hreset : ∀ n, events n ≠ .reset)
    (hn : (states n).gie = true) (hm : n ≤ m) : (states m).gie = true := by
  induction m, hm using Nat.le_induction with
  | base => exact hn
  | succ m _ ih =>
    refine Bool.eq_true_of_not_eq_false fun hcleared => hreset m ?_
    exact eq_reset_of_gie_cleared (hrun m) ih hcleared

/-- An edge latched at some point is pending until a TICK takes it (R29, R158). -/
theorem pending_from (hrun : InfiniteRun events states) (hreset : ∀ n, events n ≠ .reset)
    (hedge : events n = .cmpMatch) (htick : ∀ m, n ≤ m → events m ≠ .tick) (hm : n + 1 ≤ m) :
    (states m).irqPend = true := by
  have hlatched : ∀ m, events m = .cmpMatch → (states (m + 1)).irqPend = true := by
    intro m hm
    have hexec := hrun m
    rw [hm] at hexec
    obtain ⟨-, hnext⟩ := execCmpMatch_next hexec
    rw [hnext]
  induction m, hm using Nat.le_induction with
  | base => exact hlatched n hedge
  | succ m hle ih =>
    by_cases hm : events m = .cmpMatch
    · exact hlatched m hm
    · rw [(effect_at hrun m).irqPend_kept hm (htick m (by omega)) (hreset m), ih]

end

/-! The obligations -/

/-- Settles O17: the boot runs event by event to `bootedState`. -/
theorem faultFreeBootReachesTheLoop : Obligations.FaultFreeBootReachesTheLoop := fun s hp =>
  ⟨bootedState s, runEvents_boot hp, by simp [bootedState, resetBlock, State.reset]⟩

/-- Settles O21: the read is atomic in the model, and TICK needs GIE. -/
theorem criticalSectionMasksTheHandler : Obligations.CriticalSectionMasksTheHandler := fun s =>
  ⟨csRead_eq s, by simp [enabled], fun ht hs => exec_cmpMatch_of_armed (s := { s with gie := false }) ht hs⟩

/-- Settles O22: the two orders, an event at a time. -/
theorem readsSeeEarlierTicksOnly : Obligations.ReadsSeeEarlierTicksOnly := by
  intro s h
  obtain ⟨⟨hp, hg⟩, hs⟩ := (tickEnabled_iff s).mp h
  constructor
  · rw [runEvents_cons_of_next (exec_tick_of_pending hp hg hs), runEvents_singleton]
    exact ⟨_, exec_nowMillis_of_running hs, rfl⟩
  · rw [runEvents_cons_of_next (exec_nowMillis_of_running hs), runEvents_singleton]
    exact ⟨_, exec_tick_of_pending hp hg hs, rfl⟩

/-- Settles O23: a successful CLOCK_INIT leaves MILLIS at the count of no TICK, and never runs again. -/
theorem counterCountsTicks : Obligations.CounterCountsTicks := by
  intro s s0 events t hinit hhalt hreset hrun
  obtain ⟨-, hs0⟩ := execClockInit_next hinit
  split at hs0
  · subst hs0
    have hcount := millis_of_run_pastClockInit 0 hrun hreset rfl (by simp)
    rwa [Nat.zero_add] at hcount
  · subst hs0
    exact absurd rfl hhalt

/-- Settles O24: n turns of the ring by induction; a full turn adds the modulus. -/
theorem counterIsARing : Obligations.CounterIsARing := by
  intro n s ht hg hs hm
  obtain ⟨p, hp⟩ := runEvents_irqTimes n ht hg hs hm
  refine ⟨_, hp, rfl, ⟨rfl, rfl, rfl, rfl, rfl, rfl, rfl, rfl, rfl, rfl, rfl, rfl⟩, fun hturn => ?_⟩
  have hwrap : (s.millis + n * s.cfg.inc) % 2 ^ s.cfg.wMs = s.millis := by
    rw [hturn, Nat.add_mod_right, Nat.mod_eq_of_lt hm]
  exact hwrap

/-- Settles O25: the edges leave one latched, which the first TICK takes. -/
theorem edgesBeforeATickAreAbsorbed : Obligations.EdgesBeforeATickAreAbsorbed := by
  intro n s ht hg hs
  have htick := exec_tick_of_pending (s := { s with irqPend := true }) rfl hg hs
  rw [runEvents_append_of_next (runEvents_edges n ht hs), runEvents_append_of_next (runEvents_edges n ht hs),
    runEvents_singleton, runEvents_cons_of_next htick, runEvents_singleton]
  exact ⟨htick, exec_of_not_enabled (i := .tick) (by simp [enabled])⟩

/-- Settles O29: the parts assemble MILLIS modulo their width, which holds it. -/
theorem maskedReadIsNeverTorn : Obligations.MaskedReadIsNeverTorn := by
  intro d inj s hwidth
  rw [maskedRead_eq, Nat.mod_eq_of_lt hwidth]

/-- Settles O30: if no TICK came after some point, the fair timer would give a later edge, the edge would stay
pending and the TICK enabled, and the fair handler would take it. -/
theorem fairRunsTickForever : Obligations.FairRunsTickForever := by
  intro events states hrun hhalt hreset htimer hhandler ⟨n0, hgie, htmr⟩ n
  by_contra hnone
  have htick : ∀ m, n ≤ m → events m ≠ .tick := fun m hm hi => hnone ⟨m, hm, hi⟩
  obtain ⟨m, hm, hedge⟩ := htimer ⟨n0, htmr⟩ (max n n0)
  obtain ⟨k, hk, hi⟩ := hhandler (m + 1) fun k hk => by
    have hpend := pending_from hrun hreset hedge (fun j hj => htick j (by omega)) hk
    have hgie := gie_from hrun hreset hgie (show n0 ≤ k by omega)
    exact (tickEnabled_iff _).mpr ⟨⟨hpend, hgie⟩, hhalt k⟩
  exact htick k (by omega) hi

end Sys2Proof.Machine
end

section
/-!
PROOFS. The two sides of the block (10_state.md R33, 40_clock.md R109): the clock's events leave what MAIN owns,
MAIN's events see of the clock what REPORT reads, and so a schedule matters to MAIN by its MAIN events and the TICKs
before each REPORT and CLOCK_INIT alone.
-/

namespace Sys2Proof.Machine

open Sys2Proof.Safety

/-! The clock's events as changes of the clock -/

section
variable {i : Instr} {s t u : State}

theorem guarded_next_eq_next_iff {m : String} {ok : Bool} {u t : State} :
    guarded m ok (.next u) = .next t ↔ ok = true ∧ u = t := by
  rw [guarded_eq_next_iff, Host.Outcome.next.injEq]

/-- A MAIN event that leaves the clock alone keeps the elements of the clock and the parameters. -/
theorem Effect.clock_kept (h : Effect s i t) (hmain : agentOf i = .main) (hcounter : touchesCounter i = false)
    (hirq : i ≠ .irqEn) : SameClock s t ∧ t.cfg = s.cfg := by
  cases h with
  | reset | edge | ticked | probed => cases hmain
  | started | unsupported | quiet | reported | reportFailed => cases hcounter
  | enabled => exact absurd rfl hirq
  | _ => exact ⟨⟨rfl, rfl, rfl, rfl⟩, rfl⟩

/-- What an interrupt side's event does to the clock, as a change that does not look at the state it is done to. -/
def clockRetouch (e : Instr) (s : State) : Retouch :=
  if e = .tick then { millis := fun m => (m + s.cfg.inc) % 2 ^ s.cfg.wMs, irqPend := fun _ => false }
  else { irqPend := fun _ => true }

theorem exec_interrupt_iff {e : Instr} (he : e = .tick ∨ e = .cmpMatch) :
    exec e s = .next t ↔ enabled e s = true ∧ s.retouch (clockRetouch e s) = t := by
  rcases he with rfl | rfl <;> exact guarded_next_eq_next_iff

/-- Outside HALT the clock alone decides whether an event of the interrupt side is enabled (R104, R105). -/
theorem enabled_of_sameClock {e : Instr} (he : e = .tick ∨ e = .cmpMatch) (hclock : SameClock s t) (hs : s.seq ≠ .halt)
    (ht : t.seq ≠ .halt) : enabled e t = enabled e s := by
  obtain ⟨-, hgie, hpend, htmr⟩ := hclock
  rcases he with rfl | rfl <;> simp [enabled, hgie, hpend, htmr, hs, ht]

theorem clockRetouch_congr (e : Instr) (h : t.cfg = s.cfg) : clockRetouch e t = clockRetouch e s := by
  simp only [clockRetouch, h]

/-- An event of the interrupt side swaps with a MAIN event that leaves the clock alone, where it does not end in HALT
(R109). -/
theorem interrupt_swap {e : Instr} (he : e = .tick ∨ e = .cmpMatch) (hmain : agentOf i = .main)
    (hcounter : touchesCounter i = false) (hirq : i ≠ .irqEn) (ht : t.seq ≠ .halt) :
    runEvents [e, i] s = .next t ↔ runEvents [i, e] s = .next t := by
  simp only [runEvents_cons_eq_next_iff (rest := [_]), runEvents_singleton, exec_interrupt_iff he]
  constructor
  · rintro ⟨_, ⟨hen, rfl⟩, h⟩
    rw [exec_retouch _ _ hmain hcounter hirq] at h
    obtain ⟨v, hv, rfl⟩ := mapNext_eq_next_iff.mp h
    have heffect := effect_of_exec hv
    obtain ⟨hclock, hcfg⟩ := heffect.clock_kept hmain hcounter hirq
    refine ⟨v, hv, ?_, by rw [clockRetouch_congr e hcfg]⟩
    rwa [enabled_of_sameClock he hclock (heffect.seq_ne_halt hmain) ht]
  · rintro ⟨v, hv, hen, rfl⟩
    have heffect := effect_of_exec hv
    obtain ⟨hclock, hcfg⟩ := heffect.clock_kept hmain hcounter hirq
    rw [enabled_of_sameClock he hclock (heffect.seq_ne_halt hmain) ht] at hen
    refine ⟨_, ⟨hen, rfl⟩, ?_⟩
    rw [exec_retouch _ _ hmain hcounter hirq, hv, clockRetouch_congr e hcfg]
    rfl

/-! What MAIN sees -/

/-- Two states that differ in nothing that MAIN sees but through REPORT: one is the other with the clock, T_LATCH and
the trace changed. -/
def SeenAlike (s t : State) : Prop := ∃ r : Retouch, t = s.retouch r

theorem SeenAlike.symm (h : SeenAlike s t) : SeenAlike t s := by
  obtain ⟨r, rfl⟩ := h
  exact ⟨⟨fun _ => s.millis, fun _ => s.gie, fun _ => s.irqPend, fun _ => s.tmrRun, fun _ => s.tLatch,
    fun _ => s.trace⟩, rfl⟩

theorem SeenAlike.trans (hst : SeenAlike s t) (htu : SeenAlike t u) : SeenAlike s u := by
  obtain ⟨r, rfl⟩ := hst
  obtain ⟨q, rfl⟩ := htu
  exact ⟨⟨q.millis ∘ r.millis, q.gie ∘ r.gie, q.irqPend ∘ r.irqPend, q.tmrRun ∘ r.tmrRun, q.tLatch ∘ r.tLatch,
    q.trace ∘ r.trace⟩, rfl⟩

theorem seenAlike_of_samePrivate (hprivate : SamePrivate s t) (hmodel : SameModel s t) : SeenAlike s t := by
  refine ⟨⟨fun _ => t.millis, fun _ => t.gie, fun _ => t.irqPend, fun _ => t.tmrRun, id, id⟩, ?_⟩
  obtain ⟨hca, hcb, hpa, hpb, hpos, hbtn, ha, hb, hlatch, hseq, hfault, htx⟩ := hprivate
  obtain ⟨hcfg, htrace, hno⟩ := hmodel
  cases t
  simp_all [State.retouch]

theorem SeenAlike.samePrivate (h : SeenAlike s t) (hlatch : t.tLatch = s.tLatch) : SamePrivate s t := by
  obtain ⟨r, rfl⟩ := h
  exact ⟨rfl, rfl, rfl, rfl, rfl, rfl, rfl, rfl, hlatch, rfl, rfl, rfl⟩

/-- MAIN's events but IRQ_EN, CLOCK_INIT and REPORT leave the clock alone. -/
theorem leavesClock_or (i : Instr) :
    (touchesCounter i = false ∧ i ≠ .irqEn) ∨ i = .irqEn ∨ i = .clockInit ∨ ∃ f k, i = .report f k := by
  cases i <;> simp [touchesCounter]

theorem reportAdmits_retouch {r : Retouch} (hmillis : (s.retouch r).millis = s.millis) (f : Bool) (k : Nat) :
    reportAdmits (s.retouch r) f k = reportAdmits s f k := by
  rw [reportAdmits, hmillis]
  rfl

/-- What a MAIN event does to the elements MAIN owns, it does in every state seen alike, REPORT if it reads the same
MILLIS; MILLIS and T_LATCH, where they agree before it, agree after it. -/
theorem exec_of_seenAlike {s' : State} (hmain : agentOf i = .main) (hseen : SeenAlike s s')
    (hreport : (∃ f k, i = .report f k) → s'.millis = s.millis) (h : exec i s = .next t) :
    ∃ t', exec i s' = .next t' ∧ SeenAlike t t' ∧ (s'.millis = s.millis → t'.millis = t.millis) ∧
      (s'.tLatch = s.tLatch → t'.tLatch = t.tLatch) := by
  obtain ⟨r, rfl⟩ := hseen
  rcases leavesClock_or i with ⟨hcounter, hirq⟩ | rfl | rfl | ⟨f, k, rfl⟩
  · obtain ⟨⟨hmillis, -⟩, -⟩ := (effect_of_exec h).clock_kept hmain hcounter hirq
    have hlatch : t.tLatch = s.tLatch := by
      rcases (effect_of_exec h).tLatch_kept_or_writer (by rintro rfl; cases hmain) with hkept | rfl | ⟨f, k, rfl⟩
      · exact hkept
      · cases hmain
      · cases hcounter
    refine ⟨t.retouch r, ?_, ⟨r, rfl⟩, fun heq => ?_, fun heq => ?_⟩
    · rw [exec_retouch r s hmain hcounter hirq, h]
      rfl
    · exact (congrArg r.millis hmillis).trans (heq.trans hmillis.symm)
    · exact (congrArg r.tLatch hlatch).trans (heq.trans hlatch.symm)
  · obtain ⟨hs, rfl⟩ := execIrqEn_next h
    exact ⟨_, exec_irqEn_of_seq (s := s.retouch r) hs, ⟨{ r with gie := fun _ => true }, rfl⟩, id, id⟩
  · obtain ⟨hs, rfl⟩ := execClockInit_next h
    split
    · next hp =>
      exact ⟨_, exec_clockInit_of_supported (s := s.retouch r) hs hp,
        ⟨{ r with millis := fun _ => 0, tmrRun := fun _ => true }, rfl⟩, fun _ => rfl, id⟩
    · next hp => exact ⟨_, exec_clockInit_of_unsupported (s := s.retouch r) hs hp, ⟨r, rfl⟩, id, id⟩
  · have hmillis : (s.retouch r).millis = s.millis := hreport ⟨f, k, rfl⟩
    have hkept : t.millis = s.millis := millis_of_exec (by simp) (by simp) (by simp) h
    obtain ⟨hs, hadmits, rfl⟩ := execReport_next h
    refine ⟨_, exec_report_of_admits (s := s.retouch r) hs (by rwa [reportAdmits_retouch hmillis]),
      ⟨_, reportBody_retouch r s hmillis f k⟩, fun _ => ?_, fun _ => ?_⟩ <;> rw [reportBody_retouch r s hmillis]
    · exact (congrArg r.millis hkept).trans (hmillis.trans hkept.symm)
    · rfl

/-! Schedules -/

/-- The state with `n` further TICKs counted, and nothing else done. -/
def State.countTicks (n : Nat) (s : State) : State :=
  { s with millis := (fun m => (m + s.cfg.inc) % 2 ^ s.cfg.wMs)^[n] s.millis }

theorem seenAlike_countTicks (n : Nat) (s : State) : SeenAlike s (s.countTicks n) :=
  ⟨{ millis := fun _ => (s.countTicks n).millis }, rfl⟩

/-- A schedule as MAIN sees it, performed: each event after the TICKs that it comes after, `past` of them counted
already. -/
def replay : List (Instr × Nat) → Nat → State → Result
  | [], _, s => .next s
  | (i, n) :: rest, past, s =>
    match exec i (s.countTicks (n - past)) with
    | .next t => replay rest (max past n) t
    | .fault f => .fault f
    | .refused r => .refused r

theorem replay_cons_of_next {n past : Nat} (h : exec i (s.countTicks (n - past)) = .next t)
    (rest : List (Instr × Nat)) : replay ((i, n) :: rest) past s = replay rest (max past n) t := by
  simp only [replay, h]

/-- The state `w` of a replay that has counted `past` of the TICKs matches the state `s` of the run that has taken
`ticks` of them: they are seen alike, and the TICKs still to be counted give the run's MILLIS. -/
def Matches (ticks past : Nat) (w s : State) : Prop :=
  past ≤ ticks ∧ SeenAlike w s ∧ s.millis = (w.countTicks (ticks - past)).millis

section
variable {ticks past : Nat} {w : State}

theorem SeenAlike.cfg_eq (h : SeenAlike s t) : t.cfg = s.cfg := by
  obtain ⟨r, rfl⟩ := h
  rfl

theorem millis_countTicks_congr (n : Nat) (hmillis : t.millis = s.millis) (hcfg : t.cfg = s.cfg) :
    (t.countTicks n).millis = (s.countTicks n).millis := by
  simp only [State.countTicks, hmillis, hcfg]

/-- An event of another agent but RESET is nothing to the replay, a TICK one more to be counted. -/
theorem Matches.of_other (hm : Matches ticks past w s) (h : exec i s = .next t) (hmain : agentOf i ≠ .main)
    (hreset : i ≠ .reset) : Matches (if i = .tick then ticks + 1 else ticks) past w t := by
  obtain ⟨hle, hseen, hmillis⟩ := hm
  cases i with
  | reset => exact absurd rfl hreset
  | cmpMatch =>
    obtain ⟨-, rfl⟩ := execCmpMatch_next h
    exact ⟨hle, hseen.trans ⟨{ irqPend := fun _ => true }, rfl⟩, hmillis⟩
  | nowMillis =>
    obtain ⟨-, rfl⟩ := execNowMillis_next h
    exact ⟨hle, hseen.trans ⟨{ tLatch := fun _ => some s.millis }, rfl⟩, hmillis⟩
  | tick =>
    obtain ⟨-, rfl⟩ := execTick_next h
    refine ⟨Nat.le_succ_of_le hle, hseen.trans ⟨clockRetouch .tick s, rfl⟩, ?_⟩
    rw [if_pos rfl, Nat.succ_sub hle]
    simp only [State.countTicks, Function.iterate_succ_apply', hmillis, hseen.cfg_eq]
  | _ => exact absurd rfl hmain

/-- A MAIN event that touches the counter finds in the replay the MILLIS of the run, all TICKs counted. -/
theorem Matches.of_touching (hm : Matches ticks past w s) (h : exec i s = .next t) (hmain : agentOf i = .main) :
    ∃ w', exec i (w.countTicks (ticks - past)) = .next w' ∧ Matches ticks (max past ticks) w' t := by
  obtain ⟨hle, hseen, hmillis⟩ := hm
  obtain ⟨w', hw', hseen', hmillis', -⟩ :=
    exec_of_seenAlike hmain (hseen.symm.trans (seenAlike_countTicks (ticks - past) w)) (fun _ => hmillis.symm) h
  rw [max_eq_right hle]
  refine ⟨w', hw', le_rfl, hseen'.symm, ?_⟩
  rw [Nat.sub_self]
  exact (hmillis' hmillis.symm).symm

/-- Any other MAIN event leaves MILLIS in the run and in the replay. -/
theorem Matches.of_untouching (hm : Matches ticks past w s) (h : exec i s = .next t) (hmain : agentOf i = .main)
    (hcounter : touchesCounter i = false) : ∃ w', exec i w = .next w' ∧ Matches ticks past w' t := by
  obtain ⟨hle, hseen, hmillis⟩ := hm
  have hkeep {x y : State} (hxy : exec i x = .next y) : y.millis = x.millis :=
    millis_of_exec (by rintro rfl; cases hmain) (by rintro rfl; cases hcounter) (by rintro rfl; cases hmain) hxy
  obtain ⟨w', hw', hseen', -⟩ := exec_of_seenAlike hmain hseen.symm (by rintro ⟨f, k, rfl⟩; cases hcounter) h
  refine ⟨w', hw', hle, hseen'.symm, ?_⟩
  rw [hkeep h, hmillis]
  exact (millis_countTicks_congr _ (hkeep hw') (cfg_of_exec hw')).symm

/-- A run with no RESET ends where the replay of its schedule ends, but for what MAIN does not see. -/
theorem replay_of_run {events : List Instr} (hrun : runEvents events s = .next t) (hreset : .reset ∉ events)
    (hm : Matches ticks past w s) : ∃ v, replay (mainView events ticks) past w = .next v ∧ SeenAlike v t := by
  induction events generalizing s ticks past w with
  | nil =>
    cases hrun
    obtain ⟨-, hseen, -⟩ := hm
    exact ⟨w, rfl, hseen⟩
  | cons i rest ih =>
    obtain ⟨hi, hrest⟩ := not_or.mp (List.mem_cons.not.mp hreset)
    obtain ⟨v, hexec, hafter⟩ := runEvents_cons_eq_next_iff.mp hrun
    by_cases hmain : agentOf i = .main
    · have htick : i ≠ .tick := by rintro rfl; cases hmain
      rw [mainView, if_neg htick, if_pos hmain]
      cases hcounter : touchesCounter i with
      | true =>
        obtain ⟨w', hw', hm'⟩ := hm.of_touching hexec hmain
        rw [if_pos rfl, replay_cons_of_next hw']
        exact ih hafter hrest hm'
      | false =>
        obtain ⟨w', hw', hm'⟩ := hm.of_untouching hexec hmain hcounter
        have hnone : exec i (w.countTicks (0 - past)) = .next w' := by rwa [Nat.zero_sub]
        rw [if_neg Bool.false_ne_true, replay_cons_of_next hnone, Nat.max_zero]
        exact ih hafter hrest hm'
    · have hview : mainView (i :: rest) ticks = mainView rest (if i = .tick then ticks + 1 else ticks) := by
        rw [mainView, if_neg hmain]
        split <;> rfl
      rw [hview]
      exact ih hafter hrest (hm.of_other hexec hmain (Ne.symm hi))

end

theorem returnedValue_of_main (hmain : agentOf i = .main) : returnedValue i t = none := by
  cases i with
  | nowMillis => cases hmain
  | _ => rfl

theorem SeenAlike.observe_eq (h : SeenAlike s t) (hmain : agentOf i = .main) : observe i t = observe i s := by
  obtain ⟨r, rfl⟩ := h
  rw [observe, observe, returnedValue_of_main hmain, returnedValue_of_main hmain]
  rfl

/-- A change of the clock by an event of the interrupt side leaves what MAIN owns (R33). -/
theorem samePrivate_clockRetouch (e : Instr) (s u : State) :
    SamePrivate s (s.retouch (clockRetouch e u)) ∧ SameModel s (s.retouch (clockRetouch e u)) := by
  unfold clockRetouch
  split <;> exact ⟨⟨rfl, rfl, rfl, rfl, rfl, rfl, rfl, rfl, rfl, rfl, rfl, rfl⟩, rfl, rfl, rfl⟩

theorem sameClock_retouch (h : SameClock s t) (r : Retouch) : SameClock (s.retouch r) (t.retouch r) := by
  obtain ⟨hmillis, hgie, hpend, htmr⟩ := h
  exact ⟨congrArg r.millis hmillis, congrArg r.gie hgie, congrArg r.irqPend hpend, congrArg r.tmrRun htmr⟩

end

/-! The obligations -/

/-- Settles O28: the events named leave the clock alone, and `interrupt_swap` holds of all such. -/
theorem interruptCommutesWithMain : Obligations.InterruptCommutesWithMain := by
  intro e i s t he hi ht
  obtain ⟨hmain, hcounter, hirq⟩ : agentOf i = .main ∧ touchesCounter i = false ∧ i ≠ .irqEn := by
    rcases hi with ⟨u, rfl⟩ | rfl | ⟨f, k, rfl⟩ | ⟨btn, a, b, rfl⟩ | rfl | rfl | rfl <;> simp [agentOf, touchesCounter]
  exact interrupt_swap he hmain hcounter hirq ht

/-- Settles O55: an event of TMR or IRQ is a change of the clock by the clock and the parameters. -/
theorem interruptSideIsIsolated : Obligations.InterruptSideIsIsolated := by
  intro i s t hagent h
  have he : i = .tick ∨ i = .cmpMatch := by cases i <;> simp [agentOf] at hagent ⊢
  have hs : s.seq ≠ .halt := fun hs => by
    cases eq_reset_of_exec_halt h hs
    simp at he
  obtain ⟨hen, rfl⟩ := (exec_interrupt_iff he).mp h
  obtain ⟨hprivate, hmodel⟩ := samePrivate_clockRetouch i s s
  refine ⟨hprivate, hmodel, fun s' hclock hcfg hs' => ⟨_, (exec_interrupt_iff he).mpr ⟨?_, rfl⟩, ?_⟩⟩
  · rwa [enabled_of_sameClock he hclock hs hs']
  · rw [clockRetouch_congr i hcfg]
    exact sameClock_retouch hclock _

/-- Settles O56: states that agree on what MAIN owns are seen alike, and T_LATCH is MAIN's too. -/
theorem mainSeesTheClockThroughReportOnly : Obligations.MainSeesTheClockThroughReportOnly := by
  intro i s s' t hmain hprivate hmodel hreport h
  have hlatch : s'.tLatch = s.tLatch := by
    obtain ⟨-, -, -, -, -, -, -, -, hlatch, -⟩ := hprivate
    exact hlatch
  obtain ⟨t', ht', hseen, -, hlatch'⟩ :=
    exec_of_seenAlike hmain (seenAlike_of_samePrivate hprivate hmodel) hreport h
  exact ⟨t', ht', hseen.samePrivate (hlatch' hlatch), hseen.observe_eq hmain⟩

/-- Settles O57: both runs end where the replay of their one schedule ends, but for what MAIN does not see. -/
theorem onlyTickCountsBeforeReportsMatter : Obligations.OnlyTickCountsBeforeReportsMatter := by
  intro xs ys s t u hxs hys hreset hreset' hview
  have hm : Matches 0 0 s s := ⟨le_rfl, ⟨{}, rfl⟩, rfl⟩
  obtain ⟨v, hv, hvt⟩ := replay_of_run hxs hreset hm
  obtain ⟨v', hv', hvu⟩ := replay_of_run hys hreset' hm
  rw [hview, hv'] at hv
  cases hv
  obtain ⟨r, rfl⟩ := hvt.symm.trans hvu
  exact ⟨rfl, rfl, rfl, rfl, rfl, rfl⟩

end Sys2Proof.Machine
end

section
/-!
PROOFS. The outcomes of DECODE as rows of their own (R76, U6) and the loop an iteration at a time (41_decoder_loop.md
R127, R130 to R136).
-/

namespace Sys2Proof.Machine

open Sys2Proof.Safety

/-! The outcome rows -/

section
variable {s t : State} {o : Instr} {d : Int}

theorem decodeQ_cases (v : QVec) : decodeQ v = .qdec ∨ decodeQ v = .qinc ∨ ∃ q, decodeQ v = .qnop q := by
  unfold decodeQ
  split
  · exact .inl rfl
  · split
    · exact .inr (.inl rfl)
    · exact .inr (.inr ⟨v, rfl⟩)

/-- An outcome row is its outcome, in the DECODE whose vector selects it (R76; log entry 11). -/
theorem exec_outcome_eq (ho : o = .qdec ∨ o = .qinc ∨ ∃ q, o = .qnop q) (s : State) :
    exec o s = guarded (mnemonicOf o) (atSeq s .decode && decide (decodeQ (qVector s) = o)) (applyOutcome o s) := by
  rcases ho with rfl | rfl | ⟨q, rfl⟩ <;> rfl

theorem exec_of_selected (hs : s.seq = .decode) (ho : decodeQ (qVector s) = o) : exec o s = exec .decode s := by
  subst ho
  rw [exec_outcome_eq (decodeQ_cases _), exec_decode_of_seq hs]
  exact guarded_of_enabled (by simp [hs]) _

theorem exec_of_not_selected (ho : o = .qdec ∨ o = .qinc ∨ ∃ q, o = .qnop q) (hne : o ≠ decodeQ (qVector s)) :
    exec o s = .refused (.notEnabled (mnemonicOf o)) := by
  rw [exec_outcome_eq ho]
  exact guarded_of_not_enabled (by simp [hne.symm]) _

theorem decodeQ_of_other {v : QVec} (hdec : v ≠ 0x21) (hinc : v ≠ 0x12) : decodeQ v = .qnop v := by
  rw [decodeQ, if_neg hdec, if_neg hinc]

/-- DECODE at a vector that does not count, under either POS_OVERFLOW (R124). -/
theorem exec_decode_of_other (hs : s.seq = .decode) (hdec : qVector s ≠ 0x21) (hinc : qVector s ≠ 0x12) :
    exec .decode s = .next { s with seq := .btnReset } := by
  rw [exec_decode_of_seq hs, decodeQ_of_other hdec hinc, applyOutcome_of_not_counting rfl]

/-- Under POS_OVERFLOW = fault a count past the range stops the machine (U6). -/
theorem applyOutcome_of_overflow (ho : countOf o = d) (hd : d ≠ 0) (hfault : s.cfg.posOverflow = .fault)
    (hv : fitsS s.cfg.wPos (s.pos + d) = false) : applyOutcome o s = .fault .posOverflow := by
  simp [applyOutcome, stepPos, posFaults, ho, hd, hfault, hv]

/-- Within the range an outcome counts, under either POS_OVERFLOW, and nothing wraps (U6). -/
theorem applyOutcome_of_fits (ho : countOf o = d) (hd : d ≠ 0) (hw : 1 ≤ s.cfg.wPos)
    (hv : fitsS s.cfg.wPos (s.pos + d) = true) :
    applyOutcome o s = .next { s with pos := s.pos + d, seq := .btnReset } := by
  simp [applyOutcome, stepPos, posFaults, ho, hd, hv, wrapS_of_fitsS hw hv, State.setPos, State.setSeq]

theorem not_fitsS_below (w : Nat) : fitsS w (-(2 ^ (w - 1)) + -1) = false := by
  simp [fitsS]

theorem not_fitsS_above (w : Nat) : fitsS w (2 ^ (w - 1) - 1 + 1) = false := by
  simp [fitsS]

/-! The events of an iteration, each by one equation -/

/-- The position that DECODE leaves is the old one stepped by the count of the vector's outcome (R122 to R124). -/
theorem decodedPos_eq (w : Nat) (pos : Int) (a b ca cb pa pb : Bool) :
    decodedPos w pos (a, b) (ca, cb) (pa, pb) =
      if countOf (decodeQ (qOf a b ca cb pa pb)) = 0 then pos
      else wrapS w (pos + countOf (decodeQ (qOf a b ca cb pa pb))) := by
  simp only [decodedPos, countOf_decodeQ, qOf_eq_dec_iff, qOf_eq_inc_iff, Prod.mk.injEq, and_assoc]
  split
  · simp [Int.sub_eq_add_neg]
  · split <;> simp

theorem exec_decode_eq (hs : s.seq = .decode)
    (hcount : s.cfg.posOverflow = .wrap ∨ countOf (decodeQ (qVector s)) = 0) :
    exec .decode s =
      .next { s with pos := decodedPos s.cfg.wPos s.pos (s.latch .phA, s.latch .phB) (s.curA, s.curB)
                       (s.prevA, s.prevB), seq := .btnReset } := by
  rw [exec_decode_of_seq hs, decodedPos_eq]
  by_cases h0 : countOf (decodeQ (qVector s)) = 0
  · rw [applyOutcome_of_not_counting h0]
    exact congrArg Host.Outcome.next (congrArg (fun p => { s with pos := p, seq := .btnReset }) (if_pos h0).symm)
  · rw [applyOutcome_of_counting rfl h0 (hcount.resolve_right h0)]
    exact congrArg Host.Outcome.next (congrArg (fun p => { s with pos := p, seq := .btnReset }) (if_neg h0).symm)

theorem exec_report_eq (k : Nat) (hs : s.seq = .report) :
    exec (.report false k) s =
      .next { s with tLatch := some s.millis,
                     tx := s.tx ++ (if s.millis % s.cfg.reportInterval = 0 then statusLine s.cfg s.pos else []),
                     seq := .shift } := by
  split
  · next hg => exact exec_report_of_open k hs hg
  · next hg => rw [exec_report_of_closed k hs hg, List.append_nil]

/-- The change detector compares the fresh pair with the one-back pair (R78). -/
theorem changed_eq (s : State) :
    changed s = decide ((s.latch .phA, s.latch .phB) ≠ (s.curA, s.curB)) := by
  rw [Bool.eq_iff_iff, changed_iff, decide_eq_true_eq, ne_eq, ne_eq, ne_eq, Prod.mk.injEq, not_and_or]

theorem exec_shift_eq (hs : s.seq = .shift) :
    exec .shift s =
      .next { s with curA := if changed s then s.latch .phA else s.curA,
                     curB := if changed s then s.latch .phB else s.curB,
                     prevA := if changed s then s.curA else s.prevA, prevB := if changed s then s.curB else s.prevB,
                     seq := .sample } := by
  refine (guarded_of_seq hs _).trans ?_
  cases changed s <;> rfl

/-- One iteration is the atomic step, where POS wraps or the vector does not count (R130). -/
theorem runEvents_iter (btn a b : Bool) (hs : s.seq = .sample)
    (hcount : s.cfg.posOverflow = .wrap ∨ countOf (decodeQ (qOf a b s.curA s.curB s.prevA s.prevB)) = 0) :
    runEvents (iterEvents btn a b) s = .next (iterationStep btn a b s) := by
  refine (runEvents_cons_of_next (exec_sample_of_seq btn a b hs) _).trans ?_
  refine (runEvents_cons_of_next (exec_decode_eq rfl hcount) _).trans ?_
  refine (runEvents_cons_of_next (exec_btnReset_of_seq rfl) _).trans ?_
  refine (runEvents_cons_of_next (exec_report_eq 0 rfl) _).trans ?_
  refine (runEvents_cons_of_next (exec_shift_eq rfl) _).trans ?_
  rw [changed_eq]
  simp only [runEvents, iterationStep, hs]
  rfl

end

/-! Iterations by what they do to the position and the history -/

/-- The state begins an iteration, with these parameters, this position, this one-back and this two-back pair. -/
def LoopAt (s : State) (c : Config) (pos : Int) (cur prev : Bool × Bool) : Prop :=
  s.seq = .sample ∧ s.cfg = c ∧ s.pos = pos ∧ (s.curA, s.curB) = cur ∧ (s.prevA, s.prevB) = prev

section
variable {s t : State} {c : Config} {pos : Int} {cur prev : Bool × Bool} {a b : Bool}

theorem loopAt_self (hs : s.seq = .sample) : LoopAt s s.cfg s.pos (s.curA, s.curB) (s.prevA, s.prevB) :=
  ⟨hs, rfl, rfl, rfl, rfl⟩

/-- An iteration steps POS by its outcome, the button low, and shifts the history on a change (R121 to R129). -/
theorem runEvents_iter_loopAt (h : LoopAt s c pos cur prev) (btn a b : Bool)
    (hcount : c.posOverflow = .wrap ∨ countOf (decodeQ (qOf a b cur.1 cur.2 prev.1 prev.2)) = 0) :
    ∃ t, runEvents (iterEvents btn a b) s = .next t ∧
      LoopAt t c (if btn then 0 else decodedPos c.wPos pos (a, b) cur prev) (a, b)
        (if (a, b) = cur then prev else cur) := by
  obtain ⟨hs, rfl, rfl, rfl, rfl⟩ := h
  refine ⟨_, runEvents_iter btn a b hs hcount, hs, rfl, rfl, ?_, ?_⟩ <;>
    by_cases hsame : (a, b) = (s.curA, s.curB) <;> simp [iterationStep, hsame]

theorem iterations_append (xs ys : List (Bool × Bool × Bool)) :
    iterations (xs ++ ys) = iterations xs ++ iterations ys := by
  induction xs with
  | nil => rfl
  | cons x xs ih =>
    obtain ⟨btn, a, b⟩ := x
    simp only [List.cons_append, iterations, ih, List.append_assoc]

/-- A sample equal to the one-back pair does not count (R78). -/
theorem decodedPos_same (w : Nat) (pos : Int) (cur prev : Bool × Bool) : decodedPos w pos cur cur prev = pos := by
  rw [decodedPos_eq, if_pos (countOf_same_pair ..)]

/-- Iterations on the one-back pair keep the history, and POS but for the button (R131). -/
theorem runEvents_repeated (h : LoopAt s c pos cur prev) (buttons : List Bool) :
    ∃ t, runEvents (iterations (buttons.map fun btn => (btn, cur))) s = .next t ∧
      LoopAt t c (if buttons.any id then 0 else pos) cur prev := by
  induction buttons generalizing s pos with
  | nil => exact ⟨s, rfl, h⟩
  | cons btn rest ih =>
    obtain ⟨u, hu, hat⟩ := runEvents_iter_loopAt h btn cur.1 cur.2 (.inr (countOf_same_pair ..))
    rw [Prod.mk.eta, decodedPos_same, if_pos rfl] at hat
    obtain ⟨t, ht, hat'⟩ := ih hat
    refine ⟨t, (runEvents_append_of_next hu _).trans ht, ?_⟩
    cases btn <;> simpa using hat'

/-- A pair held for any number of iterations counts once, at its first (R133). -/
theorem runEvents_held (h : LoopAt s c pos cur prev) (hwrap : c.posOverflow = .wrap) (n : Nat) (a b : Bool) :
    ∃ t, runEvents (iterations (held n a b)) s = .next t ∧
      LoopAt t c (decodedPos c.wPos pos (a, b) cur prev) (a, b) (if (a, b) = cur then prev else cur) := by
  obtain ⟨u, hu, hat⟩ := runEvents_iter_loopAt h false a b (.inl hwrap)
  obtain ⟨t, ht, hat'⟩ := runEvents_repeated hat (List.replicate n false)
  rw [List.map_replicate] at ht
  exact ⟨t, (runEvents_append_of_next hu _).trans ht, by simpa using hat'⟩

/-- A turn of four held pairs, each other than the one before it, counts as its four first samples do. -/
theorem runEvents_turn (h : LoopAt s c pos cur prev) (hwrap : c.posOverflow = .wrap) (n1 n2 n3 n4 : Nat)
    {p1 p2 p3 p4 : Bool × Bool} (h1 : p1 ≠ cur) (h2 : p2 ≠ p1) (h3 : p3 ≠ p2) (h4 : p4 ≠ p3) :
    ∃ t, runEvents (iterations (held n1 p1.1 p1.2 ++ held n2 p2.1 p2.2 ++ held n3 p3.1 p3.2 ++ held n4 p4.1 p4.2)) s =
        .next t ∧
      LoopAt t c (decodedPos c.wPos (decodedPos c.wPos (decodedPos c.wPos (decodedPos c.wPos pos p1 cur prev) p2 p1 cur)
        p3 p2 p1) p4 p3 p2) p4 p3 := by
  obtain ⟨s1, hs1, hat1⟩ := runEvents_held h hwrap n1 p1.1 p1.2
  rw [Prod.mk.eta, if_neg h1] at hat1
  obtain ⟨s2, hs2, hat2⟩ := runEvents_held hat1 hwrap n2 p2.1 p2.2
  rw [Prod.mk.eta, if_neg h2] at hat2
  obtain ⟨s3, hs3, hat3⟩ := runEvents_held hat2 hwrap n3 p3.1 p3.2
  rw [Prod.mk.eta, if_neg h3] at hat3
  obtain ⟨s4, hs4, hat4⟩ := runEvents_held hat3 hwrap n4 p4.1 p4.2
  rw [Prod.mk.eta, if_neg h4] at hat4
  refine ⟨s4, ?_, hat4⟩
  simp only [iterations_append, List.append_assoc]
  rw [runEvents_append_of_next hs1, runEvents_append_of_next hs2, runEvents_append_of_next hs3, hs4]

/-- One phase going to `(a, b)` and back to rest, any number of times, never counts from rest if it does not at first
(R134). -/
theorem runEvents_bounce (hrest : (a, b) ≠ (false, false)) (n : Nat) (h : LoopAt s c pos (false, false) prev)
    (hfirst : countOf (decodeQ (qOf a b false false prev.1 prev.2)) = 0) :
    ∃ t, runEvents (iterations (List.replicate n [(false, a, b), (false, false, false)]).flatten) s = .next t ∧
      t.pos = pos := by
  have hback : ∀ a b, countOf (decodeQ (qOf false false a b false false)) = 0 := by decide
  have hout : ∀ a b, countOf (decodeQ (qOf a b false false a b)) = 0 := by decide
  induction n generalizing s prev with
  | zero =>
    obtain ⟨-, -, hpos, -⟩ := h
    exact ⟨s, rfl, hpos⟩
  | succ n ih =>
    obtain ⟨u, hu, hatu⟩ := runEvents_iter_loopAt h false a b (.inr hfirst)
    rw [if_neg Bool.false_ne_true, decodedPos_eq, if_pos hfirst, if_neg hrest] at hatu
    obtain ⟨v, hv, hatv⟩ := runEvents_iter_loopAt hatu false false false (.inr (hback a b))
    rw [if_neg Bool.false_ne_true, decodedPos_eq, if_pos (hback a b), if_neg hrest.symm] at hatv
    obtain ⟨t, ht, hpos⟩ := ih hatv (hout a b)
    refine ⟨t, ?_, hpos⟩
    rw [List.replicate_succ, List.flatten_cons, iterations_append]
    refine (runEvents_append_of_next ?_ _).trans ht
    refine (runEvents_append_of_next hu _).trans ?_
    exact (runEvents_append_of_next hv []).trans rfl

/-- From a one-back pair other than rest no sample counts (R76). -/
theorem decodedPos_of_cur_ne_rest {w : Nat} {fresh : Bool × Bool} (hcur : cur ≠ (false, false)) :
    decodedPos w pos fresh cur prev = pos := by
  simp [decodedPos, hcur]

/-- The fresh pair of a count is not at rest (R76). -/
theorem fresh_ne_rest_of_counted {w : Nat} {fresh : Bool × Bool} (h : decodedPos w pos fresh cur prev ≠ pos) :
    fresh ≠ (false, false) := by
  rintro rfl
  exact h (by simp [decodedPos])

theorem decodedPos_by_one (w : Nat) (pos : Int) (fresh cur prev : Bool × Bool) :
    decodedPos w pos fresh cur prev = pos ∨ decodedPos w pos fresh cur prev = wrapS w (pos - 1) ∨
      decodedPos w pos fresh cur prev = wrapS w (pos + 1) := by
  unfold decodedPos
  split
  · exact .inr (.inl rfl)
  · split
    · exact .inr (.inr rfl)
    · exact .inl rfl

end

/-! The obligations -/

/-- Settles O34: a row is DECODE where its vector selects it, and is refused elsewhere. -/
theorem outcomeRowsAreDecode : Obligations.OutcomeRowsAreDecode := by
  intro s hs hwrap
  refine ⟨(exec_of_selected hs rfl).symm, fun hq => ?_, fun hq => ?_, fun q hdec hinc hq => ?_,
    fun _ => exec_of_not_selected⟩
  · rw [exec_of_selected hs ((decodeQ_eq_qdec_iff _).mpr hq), exec_decode_of_wrap hs hwrap, if_pos hq]
  · rw [exec_of_selected hs ((decodeQ_eq_qinc_iff _).mpr hq), exec_decode_of_wrap hs hwrap, if_neg (by rw [hq]; decide),
      if_pos hq]
  · subst hq
    rw [exec_of_selected hs (decodeQ_of_other hdec hinc), exec_decode_of_other hs hdec hinc]

/-- Settles O36: the count at either end of the range leaves it, the count within does not. -/
theorem overflowFaultsWhereChosen : Obligations.OverflowFaultsWhereChosen := by
  intro s hs hfault hw
  have hdec (hq : qVector s = 0x21) : exec .decode s = applyOutcome .qdec s := by
    rw [exec_decode_of_seq hs, (decodeQ_eq_qdec_iff _).mpr hq]
  have hinc (hq : qVector s = 0x12) : exec .decode s = applyOutcome .qinc s := by
    rw [exec_decode_of_seq hs, (decodeQ_eq_qinc_iff _).mpr hq]
  have hw : 1 ≤ s.cfg.wPos := by omega
  refine ⟨fun hq hpos => ?_, fun hq hpos => ?_, fun hq hfits => ?_, fun hq hfits => ?_, fun hdec hinc => ⟨?_, ?_⟩,
    fun hq => exec_of_selected hs ((decodeQ_eq_qdec_iff _).mpr hq),
    fun hq => exec_of_selected hs ((decodeQ_eq_qinc_iff _).mpr hq), fun _ => exec_of_not_selected⟩
  · rw [hdec hq]
    exact applyOutcome_of_overflow rfl (by decide) hfault (hpos ▸ not_fitsS_below _)
  · rw [hinc hq]
    exact applyOutcome_of_overflow rfl (by decide) hfault (hpos ▸ not_fitsS_above _)
  · rw [hdec hq]
    exact applyOutcome_of_fits rfl (by decide) hw hfits
  · rw [hinc hq]
    exact applyOutcome_of_fits rfl (by decide) hw hfits
  · exact exec_decode_of_other hs hdec hinc
  · rw [exec_of_selected hs (decodeQ_of_other hdec hinc), exec_decode_of_other hs hdec hinc]

/-- Settles O39: below the modulus the value read is k INC, a multiple of INC, so the gate decides the
rest. -/
theorem gateOpensAtCommonMultiples : Obligations.GateOpensAtCommonMultiples := by
  intro c k hk
  rw [Nat.mod_eq_of_lt hk, gateOpen, decide_eq_true_eq, ← Nat.dvd_iff_mod_eq_zero, Nat.lcm_dvd_iff]
  exact ⟨fun h => ⟨Nat.dvd_mul_left .., h⟩, And.right⟩

/-- Settles O41: the five events, each by its equation. -/
theorem iterationIsOneAtomicStep : Obligations.IterationIsOneAtomicStep := fun btn a b _ hs hwrap =>
  runEvents_iter btn a b hs (.inl hwrap)

/-- Settles O42: by induction on the button levels. -/
theorem repeatedSamplesChangeNothing : Obligations.RepeatedSamplesChangeNothing := by
  intro buttons s hs
  obtain ⟨t, ht, -, -, hpos, hcur, hprev⟩ := runEvents_repeated (loopAt_self hs) buttons
  obtain ⟨hca, hcb⟩ := Prod.mk.inj hcur
  obtain ⟨hpa, hpb⟩ := Prod.mk.inj hprev
  exact ⟨t, ht, hca, hcb, hpa, hpb, hpos⟩

/-- Settles O43: the history shifts whatever the button; a count leaves a one-back pair other than rest, from which no
vector counts. -/
theorem countsAreByOneAndNeverRepeated : Obligations.CountsAreByOneAndNeverRepeated := by
  intro a b s hs hwrap
  obtain ⟨low, hlow, hlowAt⟩ := runEvents_iter_loopAt (loopAt_self hs) false a b (.inl hwrap)
  obtain ⟨high, hhigh, -, -, hzero, hcur, hprev⟩ := runEvents_iter_loopAt (loopAt_self hs) true a b (.inl hwrap)
  obtain ⟨-, -, hpos, hcur', hprev'⟩ := id hlowAt
  obtain ⟨hca, hcb⟩ := Prod.mk.inj (hcur'.trans hcur.symm)
  obtain ⟨hpa, hpb⟩ := Prod.mk.inj (hprev'.trans hprev.symm)
  refine ⟨low, high, hlow, hhigh, ?_, hzero, hca, hcb, hpa, hpb, fun hne a' b' => ?_⟩
  · rw [hpos]
    exact decodedPos_by_one ..
  · rw [hpos] at hne
    obtain ⟨u, hu, -, -, hupos, -⟩ := runEvents_iter_loopAt hlowAt false a' b' (.inl hwrap)
    refine ⟨u, hu, hupos.trans ?_⟩
    rw [hpos]
    exact decodedPos_of_cur_ne_rest (fresh_ne_rest_of_counted hne)

/-- Settles O44: of the four first samples of a turn, the first counts. -/
theorem cleanRotationCountsOncePerCycle : Obligations.CleanRotationCountsOncePerCycle := by
  constructor
  · intro n1 n2 n3 n4 s hs hwrap hhist
    have hat : LoopAt s s.cfg s.pos (false, false) (false, true) := by simpa [LoopAt, hs, and_assoc] using hhist
    obtain ⟨t, ht, -, -, hpos, hcur, hprev⟩ := runEvents_turn hat hwrap n1 n2 n3 n4 (p1 := (true, false))
      (p2 := (true, true)) (p3 := (false, true)) (p4 := (false, false)) (by decide) (by decide) (by decide) (by decide)
    rw [Prod.mk.injEq] at hcur hprev
    exact ⟨t, ht, hpos, by simp [hcur, hprev]⟩
  · intro n1 n2 n3 n4 s hs hwrap hhist
    have hat : LoopAt s s.cfg s.pos (false, false) (true, false) := by simpa [LoopAt, hs, and_assoc] using hhist
    obtain ⟨t, ht, -, -, hpos, hcur, hprev⟩ := runEvents_turn hat hwrap n1 n2 n3 n4 (p1 := (false, true))
      (p2 := (true, true)) (p3 := (true, false)) (p4 := (false, false)) (by decide) (by decide) (by decide) (by decide)
    rw [Prod.mk.injEq] at hcur hprev
    exact ⟨t, ht, hpos, by simp [hcur, hprev]⟩

/-- Settles O45: each phase from a two-back pair with the other phase low. -/
theorem bounceAroundZeroNeverCounts : Obligations.BounceAroundZeroNeverCounts := by
  intro n s hs hcur
  have hat := loopAt_self hs
  rw [hcur] at hat
  have hA : ∀ pa, countOf (decodeQ (qOf true false false false pa false)) = 0 := by decide
  have hB : ∀ pb, countOf (decodeQ (qOf false true false false false pb)) = 0 := by decide
  exact ⟨fun hprev => runEvents_bounce (by decide) n hat (by rw [hprev]; exact hA _),
    fun hprev => runEvents_bounce (by decide) n hat (by rw [hprev]; exact hB _)⟩

end Sys2Proof.Machine
end

section
/-!
PROOFS. The serial text (30_encoding.md R79 to R81): the decimal digits by their equation, their value, and the bytes
they never are.
-/

namespace Sys2Proof.Machine

/-! Digits -/

/-- The digits of a number are those of its tenth part and its last one (R81): the fuel suffices for both. -/
theorem digits_eq (m : Nat) :
    digits m = if m < 10 then [digitByte m] else digits (m / 10) ++ [digitByte (m % 10)] := by
  have hfuel : digits m = digitsFuel (m.log2 + 1) m := digitsFuel_eq le_rfl (Nat.le_succ _)
  rw [hfuel, digitsFuel]
  split
  · rfl
  · next hm =>
    rw [digits, digitsFuel_eq (log2_div_ten_lt (by omega) (Nat.le_succ _)) le_rfl]

theorem digitByte_toNat {d : Nat} (hd : d < 10) : (digitByte d).toNat = 0x30 + d := by
  rw [digitByte, BitVec.toNat_ofNat, Nat.mod_eq_of_lt (by omega)]

/-- A byte below the digits is none of them. -/
theorem notMem_digits {b : Byte} (hb : b.toNat < 0x30) (m : Nat) : b ∉ digits m := by
  intro h
  obtain ⟨d, hd, rfl⟩ := digitsFuel_bytes h
  rw [digitByte_toNat hd] at hb
  omega

/-- A byte that is neither a digit nor the minus sign does not occur in a decimal text. -/
theorem notMem_decText {b : Byte} (hb : b.toNat < 0x30) (hminus : b ≠ minusByte) (v : Int) : b ∉ decText v := by
  unfold decText
  split
  · exact fun h => (List.mem_cons.mp h).elim hminus (notMem_digits hb _)
  · exact notMem_digits hb _

/-- The number that decimal digits write, most significant first. -/
def digitsValue (text : List Byte) : Nat := text.foldl (fun acc b => acc * 10 + (b.toNat - 0x30)) 0

theorem digitsValue_digits (m : Nat) : digitsValue (digits m) = m := by
  induction m using Nat.strongRecOn with
  | ind m ih =>
    rw [digits_eq]
    split
    · next hm => simp [digitsValue, digitByte_toNat hm]
    · next hm =>
      have hrest := ih (m / 10) (by omega)
      rw [digitsValue] at hrest
      rw [digitsValue, List.foldl_append, hrest, List.foldl_cons, List.foldl_nil,
        digitByte_toNat (Nat.mod_lt m (by omega))]
      omega

theorem digits_injective {m n : Nat} (h : digits m = digits n) : m = n := by
  rw [← digitsValue_digits m, h, digitsValue_digits]

/-- A text that begins with the minus sign is no digits. -/
theorem minus_cons_ne_digits (text : List Byte) (n : Nat) : minusByte :: text ≠ digits n := fun h =>
  notMem_digits (by decide) n (h ▸ List.mem_cons_self)

/-- Settles O47: the line is its parts; no part holds a linefeed; the digits follow their equation. -/
theorem statusLineBytes : Obligations.StatusLineBytes := by
  refine ⟨fun c v => ⟨rfl, ?_, ?_⟩, fun _ => rfl, digits_eq⟩
  · simp [statusLine, counterText]
    omega
  · have htext : (0x0A : Byte) ∉ decText v := notMem_decText (by decide) (by decide) v
    simpa [statusLine, counterText, spaceByte, crByte] using htext

/-- Settles O48: the sign is the first byte, and the digits have one value. -/
theorem decimalTextIsUnambiguous : Obligations.DecimalTextIsUnambiguous := by
  intro v w h
  unfold decText at h
  split at h <;> split at h
  · have := digits_injective (List.cons.inj h).2
    omega
  · exact absurd h (minus_cons_ne_digits _ _)
  · exact absurd h.symm (minus_cons_ne_digits _ _)
  · have := digits_injective h
    omega

end Sys2Proof.Machine
end

section
/-!
PROOFS. Progress (40_clock.md R103, 41_decoder_loop.md R136): where MAIN is scheduled again and again, SHIFT comes again
and again.
-/

namespace Sys2Proof.Machine

open Sys2Proof.Safety

/-- How many MAIN events are still to come before the SHIFT that SEQ leads to. -/
def beforeShift : Seq → Nat
  | .acquire => 9
  | .iocfg => 8
  | .clockInit => 7
  | .irqEn => 6
  | .greet => 5
  | .sample => 4
  | .decode => 3
  | .btnReset => 2
  | .report => 1
  | .shift => 0
  | .halt => 0

theorem beforeShift_successor_lt {q : Seq} (hshift : q ≠ .shift) (hhalt : q ≠ .halt) :
    beforeShift (successor q) < beforeShift q := by
  cases q with
  | shift => exact absurd rfl hshift
  | halt => exact absurd rfl hhalt
  | _ => decide

/-- Where SEQ names SHIFT the MAIN event performed is SHIFT (R27). -/
theorem Effect.eq_shift_of_seq {i : Instr} {s t : State} (h : Effect s i t) (hmain : agentOf i = .main)
    (hs : s.seq = .shift) : i = .shift := by
  obtain ⟨j, hj, hname⟩ := h.named hmain
  rw [hs] at hj
  cases hj
  rcases hname with hname | ⟨hdecode, -⟩
  · cases i <;> simp [mnemonicOf] at hname ⊢
  · cases hdecode

section
variable {events : Nat → Instr} {states : Nat → State}

/-- Up to the next event of MAIN the other agents leave SEQ (R27). -/
theorem next_main (hrun : InfiniteRun events states) (hreset : ∀ n, events n ≠ .reset) (d n : Nat)
    (hagent : agentOf (events (n + d)) = .main) :
    ∃ m, n ≤ m ∧ agentOf (events m) = .main ∧ (states m).seq = (states n).seq := by
  induction d generalizing n with
  | zero => exact ⟨n, le_rfl, hagent, rfl⟩
  | succ d ih =>
    by_cases hn : agentOf (events n) = .main
    · exact ⟨n, le_rfl, hn, rfl⟩
    · have hkept := (effect_at hrun n).seq_kept hn (hreset n)
      obtain ⟨m, hm, hmain, hseq⟩ := ih (n + 1) (by rwa [Nat.add_right_comm])
      exact ⟨m, by omega, hmain, hseq.trans hkept⟩

/-- From every point, by the number of MAIN events still before it, SHIFT comes. -/
theorem shift_comes (hrun : InfiniteRun events states) (hhalt : ∀ n, (states n).seq ≠ .halt)
    (hreset : ∀ n, events n ≠ .reset) (hmain : MainScheduled events) (d n : Nat)
    (hd : beforeShift (states n).seq ≤ d) : ∃ m, n ≤ m ∧ events m = .shift := by
  obtain ⟨k, hk, hagent⟩ := hmain n
  obtain ⟨m, hm, hagent, hseq⟩ := next_main hrun hreset (k - n) n (by rwa [Nat.add_sub_cancel' hk])
  by_cases hshift : (states m).seq = .shift
  · exact ⟨m, hm, (effect_at hrun m).eq_shift_of_seq hagent hshift⟩
  · have hnext : (states (m + 1)).seq = successor (states m).seq := by
      rcases (effect_at hrun m).seq_moves hagent with ⟨hsucc, -⟩ | ⟨hstop, -⟩
      · exact hsucc
      · exact absurd hstop (hhalt (m + 1))
    have hlt := beforeShift_successor_lt hshift (hhalt m)
    rw [← hnext, hseq] at hlt
    cases d with
    | zero => omega
    | succ d =>
      obtain ⟨p, hp, hi⟩ := shift_comes hrun hhalt hreset hmain d (m + 1) (by omega)
      exact ⟨p, by omega, hi⟩

end

/-- Settles O31: each MAIN event brings SEQ nearer to SHIFT, and the events between leave it. -/
theorem scheduledMainIteratesForever : Obligations.ScheduledMainIteratesForever :=
  fun _ states hrun hhalt hreset hmain n => shift_comes hrun hhalt hreset hmain (beforeShift (states n).seq) n le_rfl

end Sys2Proof.Machine
end
